-- ==== Sys2Proof/Word.lean ====
section
/-! DEFINITION. The plain value types of the block: bytes, 16-bit words, register values and counters. -/

namespace Sys2Proof

/-- A byte of a frame, a command or a register field (R11). -/
abbrev Byte := BitVec 8

/-- A 16-bit value: a PAN id, a short address, a frame control word, a checksum. -/
abbrev Half := BitVec 16

/-- A configuration register is read and written as a 64-bit value (R46). -/
abbrev Value := BitVec 64

/-- A drop counter: a number that wraps at the width the configuration gives (R27, R5 `CNT_WIDTH`). -/
abbrev Counter := Nat

end Sys2Proof
end

