-- ==== Sys2Proof/Syntax.lean ====
section
/-! DEFINITION. The operand types and the instructions: the 15 commands of port CMD (R111) and the five frame-type
patterns a received frame is dispatched by (R275), one constructor per row of spec/opcode_table.json. -/

namespace Sys2Proof

/-- A long address: 8 bytes `a[0..7]` in host storage order (R15). -/
structure LongAddr where
  a0 : Byte
  a1 : Byte
  a2 : Byte
  a3 : Byte
  a4 : Byte
  a5 : Byte
  a6 : Byte
  a7 : Byte
  deriving DecidableEq, Repr, Inhabited

/-- Addressing mode (R13); its wire codes are 0, 2 and 3 (R97). -/
inductive Mode where
  | none
  | short
  | long
  deriving DecidableEq, Repr, Inhabited

/-- An address with its PAN id; the absent address never carries one (R13). -/
inductive Address where
  | none
  | short (pan addr : Half)
  | long (pan : Half) (addr : LongAddr)
  deriving DecidableEq, Repr, Inhabited

/-- A generation-tagged handle of an interface (R13, R33): slot number and generation, as a command carries them. -/
structure Handle where
  slot : Byte
  gen : Byte
  deriving DecidableEq, Repr, Inhabited

/-- The frame control word less its type (R93): the three flags, the two addressing-mode codes and the reserved bits. -/
structure FrameCtl where
  sec : Bool
  ackreq : Bool
  intrapan : Bool
  /-- reserved bits [7:6] -/
  rsvLow : BitVec 2
  dam : BitVec 2
  /-- reserved bits [11:10] -/
  rsvMid : BitVec 2
  sam : BitVec 2
  /-- reserved bits [15:14] -/
  rsvHigh : BitVec 2
  deriving DecidableEq, Repr, Inhabited

/-- The input port an instruction arrives on: a command descriptor on CMD, or the frame control word of a frame from
the radio (R9). -/
inductive Port where
  | cmd
  | phyRx
  deriving DecidableEq, Repr, Inhabited

/-- The instructions. A command's operands are those of R111; a frame-type pattern carries the rest of its frame
control word. -/
inductive Instr where
  /-- IF_ADD (R212) -/
  | ifAdd (type : Byte) (hw : LongAddr)
  /-- IF_REMOVE (R220) -/
  | ifRemove (h : Handle)
  /-- DEV_UNREGISTER (R225) -/
  | devUnregister
  /-- DEV_FREE (R228) -/
  | devFree
  /-- CFG_READ (R232) -/
  | cfgRead (h : Handle) (reg : Byte)
  /-- CFG_WRITE (R234) -/
  | cfgWrite (h : Handle) (reg : Byte) (value : Value)
  /-- DECODE_HDR (R130) -/
  | decodeHdr (bytes : List Byte)
  /-- ENCODE_HDR (R145) -/
  | encodeHdr (h : Handle) (type : Byte) (sec ackreq : Bool) (seq : Byte) (dst : Address) (src : Option Address)
  /-- BUILD_ACK (R160) -/
  | buildAck (seq : Byte)
  /-- CRC_COMPUTE (R172) -/
  | crcCompute (bytes : List Byte)
  /-- CRC_APPEND (R174) -/
  | crcAppend (bytes : List Byte)
  /-- CRC_VERIFY (R176) -/
  | crcVerify (bytes : List Byte)
  /-- CLASSIFY (R190) -/
  | classify (h : Handle) (dst : Address) (srcMode : Mode)
  /-- RX_FRAME (R250) -/
  | rxFrame (bytes : List Byte)
  /-- TX_FRAME (R300) -/
  | txFrame (h : Handle) (type : Byte) (sec ackreq : Bool) (dst : Address) (src : Option Address)
      (payload : List Byte)
  /-- FRAME.BEACON (R276) -/
  | frameBeacon (f : FrameCtl)
  /-- FRAME.DATA (R279) -/
  | frameData (f : FrameCtl)
  /-- FRAME.ACK (R277) -/
  | frameAck (f : FrameCtl)
  /-- FRAME.MACCMD (R278) -/
  | frameMaccmd (f : FrameCtl)
  /-- FRAME.UNRECOGNIZED (R279): types 4 to 7, `tt` the two low bits of the type -/
  | frameUnrecognized (tt : BitVec 2) (f : FrameCtl)
  deriving DecidableEq, Repr, Inhabited

end Sys2Proof
end

