-- ==== Sys2Proof/Config.lean ====
section
/-! DEFINITION. The parameters an instance of the block is built with (R5, R6), the kinds of answer the radio and the
collaborators give, and the FREE VALUES: opaque constants that stand for what the spec leaves open (R12 `choose`). -/

namespace Sys2Proof

/-- What the block does with an ack-requesting frame when the radio does not acknowledge itself (R5, R272). -/
inductive AckPolicy where
  | warnOnly
  | synthesizeAck
  deriving DecidableEq, Repr, Inhabited

/-- The parameters of R5 that the source does not fix. They are constant from reset to reset (R6). -/
structure Config where
  /-- `N_IF`: number of interface slots -/
  nIf : Nat
  /-- `WQ_DEPTH`: capacity of the work queue -/
  wqDepth : Nat
  /-- `CAP_OMITS_CHECKSUM` -/
  omitsChecksum : Bool
  /-- `CAP_HW_ACK` -/
  hwAck : Bool
  /-- `CAP_ADDR_FILTER` -/
  addrFilter : Bool
  /-- `ACK_POLICY` -/
  ackPolicy : AckPolicy
  /-- `MATCH_MONITOR` -/
  matchMonitor : Bool
  /-- `CHAN_NONE`: the channel value that stands for none set -/
  chanNone : Byte
  /-- `CNT_WIDTH`: width of the drop counters -/
  cntWidth : Nat
  /-- `GEN_WIDTH`: width of a handle's generation tag -/
  genWidth : Nat
  deriving DecidableEq, Repr, Inhabited

/-- The configuration `State.reset` is built with: the spec's defaults (R5) and, where it gives none, the values the
programs of 95_test_vectors.md start from. DESIGN CHOICE (log 4): every claim is about states of any configuration. -/
def Config.reference : Config where
  nIf := 4
  wqDepth := 8
  omitsChecksum := false
  hwAck := false
  addrFilter := false
  ackPolicy := .warnOnly
  matchMonitor := true
  chanNone := 0xFF#8
  cntWidth := 32
  genWidth := 8

/-- What a configuration must satisfy: `N_IF >= 1`, `WQ_DEPTH >= 1` (R5); a handle carries its slot and its generation in
one byte each, so at most 256 slots (DEDUCED, log 23) and generations of at most 8 bits; a counter is read through a
64-bit register; `CHAN_NONE` is any byte but channel 0 (DEDUCED, log 37). -/
def Config.wf (c : Config) : Bool :=
  decide (1 ≤ c.nIf) && decide (c.nIf ≤ 256) && decide (1 ≤ c.wqDepth) &&
  decide (1 ≤ c.cntWidth ∧ c.cntWidth ≤ 64) && decide (1 ≤ c.genWidth ∧ c.genWidth ≤ 8) &&
  c.chanNone != 0#8

/-- The radio's answer to `PHY_TX.transmit` (R9). -/
inductive TransmitAnswer where
  | ok
  | busy
  deriving DecidableEq, Repr, Inhabited

/-- The radio's answer to `PHY_CTL.set_channel` (R9). -/
inductive ChannelAnswer where
  | ok
  | fail
  deriving DecidableEq, Repr, Inhabited

/-- What the beacon parser returns when it does not fail: the coordinator's address and capability flags the block
does not use (R276). -/
structure Parsed where
  addr : Address
  caps : Nat
  deriving DecidableEq, Repr, Inhabited

/-- The command handler's delivery result, which the block does nothing with (R278). -/
abbrev DeliveryResult := Nat

/-- FREE: which enabled move is made when no schedule is given (R7, log 1). -/
opaque Config.freePick : Nat → Nat

/-- FREE: how many further atomic steps the scheduled agent takes (R7, log 2). -/
opaque Config.freeBurst : Nat → Nat

/-- FREE: `choose in 0..255` of IF_ADD for `dsn` and `bsn` (R212, log 6). -/
opaque Config.freeSeq : Nat → Byte

/-- FREE: whether a clone can be made (R264, log 7). -/
opaque Config.freeClone : Nat → Bool

/-- FREE: the radio's answer to `transmit` (R355, log 9). -/
opaque Config.freeTransmit : Nat → TransmitAnswer

/-- FREE: the radio's answer to `set_channel` (R355, log 9). -/
opaque Config.freeSetChannel : Nat → ChannelAnswer

/-- FREE: the beacon parser's answer, `none` for its error (R276, log 9). -/
opaque Config.freeParse : Nat → Option Parsed

/-- FREE: the command handler's delivery result (R278, log 9). -/
opaque Config.freeHandled : Nat → DeliveryResult

end Sys2Proof
end

