-- ==== Sys2Proof/WellFormed.lean ====
section
/-! DEFINITION. Which instructions an encoding exists for: the length limits of the command operands (R111, R114) and,
for the frame-type patterns, the frames DECODE_HDR accepts (R115). -/

namespace Sys2Proof

/-- A frame's or payload's length limit in a command: `len` and `plen` are at most 127 (R114). -/
def lengthOk (bytes : List Byte) : Bool :=
  decide (bytes.length ≤ 127)

/-- A configuration register and the handle it is accessed with: the device registers, numbers below 0x10, use no handle
(R111, R46), so its bytes must be 0 (R110, R114). -/
def handleUsed (h : Handle) (reg : Byte) : Bool :=
  decide (0x10 ≤ reg.toNat) || (h.slot == 0#8 && h.gen == 0#8)

/-- Neither addressing mode is the reserved code 1 (R98). -/
def FrameCtl.modesOk (f : FrameCtl) : Bool :=
  f.dam != 1#2 && f.sam != 1#2

/-- PAN-ID compression with a source needs a destination to copy from (R105). -/
def FrameCtl.comboOk (f : FrameCtl) : Bool :=
  !(f.intrapan && f.dam == 0#2 && f.sam != 0#2)

/-- A frame control word the decoder accepts, its type left aside: not security-enabled (R95), no mode code 1, a legal
address combination. -/
def FrameCtl.accepted (f : FrameCtl) : Bool :=
  !f.sec && f.modesOk && f.comboOk

/-- An Ack carries no address (R103). -/
def FrameCtl.bare (f : FrameCtl) : Bool :=
  f.dam == 0#2 && f.sam == 0#2

/-- The well-formed instructions. -/
def WellFormed (i : Instr) : Bool :=
  match i with
  | .ifAdd _ _ => true
  | .ifRemove _ => true
  | .devUnregister => true
  | .devFree => true
  | .cfgRead h reg => handleUsed h reg
  | .cfgWrite h reg _ => handleUsed h reg
  | .decodeHdr bytes => lengthOk bytes
  | .encodeHdr _ _ _ _ _ _ _ => true
  | .buildAck _ => true
  | .crcCompute bytes => lengthOk bytes
  | .crcAppend bytes => lengthOk bytes
  | .crcVerify bytes => lengthOk bytes
  | .classify _ _ _ => true
  | .rxFrame bytes => lengthOk bytes
  | .txFrame _ _ _ _ _ _ payload => lengthOk payload
  | .frameBeacon f => f.accepted
  | .frameData f => f.accepted
  | .frameAck f => f.accepted && f.bare
  | .frameMaccmd f => f.accepted
  | .frameUnrecognized _ f => f.accepted

end Sys2Proof
end

