-- ==== Sys2Proof/Decode.lean ====
section
/-! DEFINITION. Byte order, the frame control word's fields, the decoder of command descriptors (R110 to R114) and of
frame control words (R93 to R105), and the encoder. -/

namespace Sys2Proof

/-! ## Byte order (R11, R65) -/

/-- `lo(v) = v[7:0]` -/
def lo (v : Half) : Byte := v.extractLsb' 0 8

/-- `hi(v) = v[15:8]` -/
def hi (v : Half) : Byte := v.extractLsb' 8 8

/-- `le16(b0, b1) = b0 + 256 * b1` -/
def le16 (b0 b1 : Byte) : Half := b1 ++ b0

/-- The two bytes of a 16-bit value, low byte first. -/
def halfBytes (v : Half) : List Byte := [lo v, hi v]

/-- A register value from its 8 bytes, low byte first (R110). -/
def le64 (b0 b1 b2 b3 b4 b5 b6 b7 : Byte) : Value := b7 ++ b6 ++ b5 ++ b4 ++ b3 ++ b2 ++ b1 ++ b0

/-- The 8 bytes of a register value, low byte first. -/
def valueBytes (v : Value) : List Byte :=
  [v.extractLsb' 0 8, v.extractLsb' 8 8, v.extractLsb' 16 8, v.extractLsb' 24 8,
    v.extractLsb' 32 8, v.extractLsb' 40 8, v.extractLsb' 48 8, v.extractLsb' 56 8]

/-- The bytes of a long address in host storage order, `a[0]` first (R110). -/
def LongAddr.bytes (a : LongAddr) : List Byte := [a.a0, a.a1, a.a2, a.a3, a.a4, a.a5, a.a6, a.a7]

/-- `rev8`: the same bytes in the opposite order (R11, R15). -/
def LongAddr.rev8 (a : LongAddr) : LongAddr := ⟨a.a7, a.a6, a.a5, a.a4, a.a3, a.a2, a.a1, a.a0⟩

/-! ## Addressing modes and addresses (R13, R97) -/

/-- `mode(a)` (R13) -/
def Address.mode : Address → Mode
  | .none => .none
  | .short _ _ => .short
  | .long _ _ => .long

/-- The PAN id an address carries. -/
def Address.pan? : Address → Option Half
  | .none => Option.none
  | .short p _ => some p
  | .long p _ => some p

/-- The wire code of a mode (R97). -/
def Mode.bits : Mode → BitVec 2
  | .none => 0#2
  | .short => 2#2
  | .long => 3#2

/-- The mode of a wire code; code 1 is reserved (R97, R98). -/
def modeOfBits (c : BitVec 2) : Option Mode :=
  if c = 0#2 then some .none else if c = 2#2 then some .short else if c = 3#2 then some .long else none

/-- The mode byte of an `AddressOp` or of `src_mode` (R112). -/
def Mode.byte : Mode → Byte
  | .none => 0#8
  | .short => 2#8
  | .long => 3#8

/-- The mode a mode byte stands for; any other value refuses the command (R112). That this holds of CLASSIFY's `src_mode`
byte too is a DESIGN CHOICE (log 38): R112 speaks of an `AddressOp` only. -/
def modeOfByte (b : Byte) : Option Mode :=
  if b = 0#8 then some .none else if b = 2#8 then some .short else if b = 3#8 then some .long else none

/-! ## The frame control word (R93) -/

/-- Where the flags and modes stand in the frame control word, as one record (93_implementation_defined G1): the bit of
`ackreq` and of `intrapan`, the low bit of `dam` and of `sam`. The type is `fc[2:0]` and `sec` is `fc[3]` in every
layout. -/
structure FcLayout where
  ackreq : Nat
  intrapan : Nat
  dam : Nat
  sam : Nat
  deriving DecidableEq, Repr, Inhabited

/-- The layout the spec follows (R93, conflict C10). -/
def fcLayout : FcLayout := ⟨4, 5, 8, 12⟩

/-- A layout whose fields fit in the word above bit 3 and do not overlap. -/
def FcLayout.disjoint (L : FcLayout) : Bool :=
  decide (4 ≤ L.ackreq ∧ L.ackreq < 16) && decide (4 ≤ L.intrapan ∧ L.intrapan < 16) &&
  decide (4 ≤ L.dam ∧ L.dam < 15) && decide (4 ≤ L.sam ∧ L.sam < 15) && decide (L.ackreq ≠ L.intrapan) &&
  [L.dam, L.dam + 1, L.sam, L.sam + 1].all (fun b => b != L.ackreq && b != L.intrapan) &&
  decide (L.dam + 1 < L.sam ∨ L.sam + 1 < L.dam)

/-- `type = fc[2:0]` -/
def fcType (fc : Half) : BitVec 3 := fc.extractLsb' 0 3

/-- `sec = fc[3]` -/
def fcSec (fc : Half) : Bool := fc.getLsbD 3

/-- `ackreq`, `fc[4]` in the spec's layout -/
def fcAckreq (L : FcLayout) (fc : Half) : Bool := fc.getLsbD L.ackreq

/-- `intrapan`, `fc[5]` in the spec's layout -/
def fcIntrapan (L : FcLayout) (fc : Half) : Bool := fc.getLsbD L.intrapan

/-- `dam`, `fc[9:8]` in the spec's layout -/
def fcDam (L : FcLayout) (fc : Half) : BitVec 2 := fc.extractLsb' L.dam 2

/-- `sam`, `fc[13:12]` in the spec's layout -/
def fcSam (L : FcLayout) (fc : Half) : BitVec 2 := fc.extractLsb' L.sam 2

/-- Why DECODE_HDR fails: the detail codes of `MalformedFrame`, and `UnsupportedFeature` (R341). -/
inductive HdrError where
  | tooShort
  | unsupportedFeature
  | badAddrMode
  | badAckShape
  | badAddrCombo
  | truncated
  deriving DecidableEq, Repr, Inhabited

/-- The checks that need only the frame control word, in the order of R141: (2) to (5). -/
def fcFault (L : FcLayout) (fc : Half) : Option HdrError :=
  if fcSec fc then some .unsupportedFeature
  else if fcDam L fc = 1#2 ∨ fcSam L fc = 1#2 then some .badAddrMode
  else if fcType fc = 2#3 ∧ (fcDam L fc ≠ 0#2 ∨ fcSam L fc ≠ 0#2) then some .badAckShape
  else if fcIntrapan L fc = true ∧ fcDam L fc = 0#2 ∧ fcSam L fc ≠ 0#2 then some .badAddrCombo
  else none

/-- The fields of a frame control word, reserved bits included (R93). -/
def frameCtl (fc : Half) : FrameCtl where
  sec := fcSec fc
  ackreq := fcAckreq fcLayout fc
  intrapan := fcIntrapan fcLayout fc
  rsvLow := fc.extractLsb' 6 2
  dam := fcDam fcLayout fc
  rsvMid := fc.extractLsb' 10 2
  sam := fcSam fcLayout fc
  rsvHigh := fc.extractLsb' 14 2

/-- The frame control word of a type and the remaining fields: `rrssrrddrriae` and the three type bits, most
significant bit first (opcode_table.json, column `encoding`). -/
def FrameCtl.word (f : FrameCtl) (type : BitVec 3) : Half :=
  f.rsvHigh ++ f.sam ++ f.rsvMid ++ f.dam ++ f.rsvLow ++ BitVec.ofBool f.intrapan ++ BitVec.ofBool f.ackreq ++
    BitVec.ofBool f.sec ++ type

/-- Why a descriptor or a frame control word is no instruction. -/
inductive DecodeError where
  /-- an opcode not listed in R111 (R114) -/
  | illegalCommand
  /-- a listed opcode with a malformed descriptor (R112, R114) -/
  | badOperand
  /-- a frame control word DECODE_HDR rejects (R115) -/
  | frame (e : HdrError)
  deriving DecidableEq, Repr, Inhabited

/-- The frame-type pattern of a type code (R94, R275). -/
def frameInstr (type : BitVec 3) (f : FrameCtl) : Instr :=
  if type = 0#3 then .frameBeacon f
  else if type = 1#3 then .frameData f
  else if type = 2#3 then .frameAck f
  else if type = 3#3 then .frameMaccmd f
  else .frameUnrecognized (type.extractLsb' 0 2) f

/-- The frame-type pattern a frame control word selects; the words DECODE_HDR rejects are rejected by name (R115). -/
def decodeFc (fc : Half) : Except DecodeError Instr :=
  match fcFault fcLayout fc with
  | some e => .error (.frame e)
  | none => .ok (frameInstr (fcType fc) (frameCtl fc))

/-! ## Command descriptors (R110 to R114) -/

/-- The opcodes of R111. -/
inductive Opcode where
  | ifAdd
  | ifRemove
  | devUnregister
  | devFree
  | cfgRead
  | cfgWrite
  | decodeHdr
  | encodeHdr
  | buildAck
  | crcCompute
  | crcAppend
  | crcVerify
  | classify
  | rxFrame
  | txFrame
  deriving DecidableEq, Repr, Inhabited

/-- `cmd[0]` of each opcode (R111). -/
def Opcode.byte : Opcode → Byte
  | .ifAdd => 0x01#8
  | .ifRemove => 0x02#8
  | .devUnregister => 0x03#8
  | .devFree => 0x04#8
  | .cfgRead => 0x05#8
  | .cfgWrite => 0x06#8
  | .decodeHdr => 0x10#8
  | .encodeHdr => 0x11#8
  | .buildAck => 0x12#8
  | .crcCompute => 0x18#8
  | .crcAppend => 0x19#8
  | .crcVerify => 0x1A#8
  | .classify => 0x20#8
  | .rxFrame => 0x30#8
  | .txFrame => 0x38#8

/-- The opcode of `cmd[0]`, if R111 lists it. -/
def opcodeOfByte (b : Byte) : Option Opcode :=
  match b.toNat with
  | 0x01 => some .ifAdd
  | 0x02 => some .ifRemove
  | 0x03 => some .devUnregister
  | 0x04 => some .devFree
  | 0x05 => some .cfgRead
  | 0x06 => some .cfgWrite
  | 0x10 => some .decodeHdr
  | 0x11 => some .encodeHdr
  | 0x12 => some .buildAck
  | 0x18 => some .crcCompute
  | 0x19 => some .crcAppend
  | 0x1A => some .crcVerify
  | 0x20 => some .classify
  | 0x30 => some .rxFrame
  | 0x38 => some .txFrame
  | _ => none

/-- Every byte is zero: a must-be-zero field (R110, R114). -/
def allZero (bs : List Byte) : Bool := bs.all (fun b => b == 0#8)

/-- The descriptor ends here: bytes beyond the operands are fields the operation does not use and must be 0
(DEDUCED, log 12). -/
def endOf (rest : List Byte) (i : Instr) : Option Instr :=
  if allZero rest then some i else none

/-- Read a long address in host storage order. -/
def takeLong : List Byte → Option (LongAddr × List Byte)
  | b0 :: b1 :: b2 :: b3 :: b4 :: b5 :: b6 :: b7 :: rest => some (⟨b0, b1, b2, b3, b4, b5, b6, b7⟩, rest)
  | _ => none

/-- Read an `AddressOp` (R112). -/
def takeAddress : List Byte → Option (Address × List Byte)
  | [] => none
  | m :: rest =>
    match modeOfByte m with
    | none => none
    | some .none => some (.none, rest)
    | some .short =>
      match rest with
      | p0 :: p1 :: x0 :: x1 :: rest => some (.short (le16 p0 p1) (le16 x0 x1), rest)
      | _ => none
    | some .long =>
      match rest with
      | p0 :: p1 :: rest =>
        match takeLong rest with
        | some (a, rest) => some (.long (le16 p0 p1) a, rest)
        | none => none
      | _ => none

/-- Read `src_given` and the source it announces; a value other than 0 and 1 is malformed (DESIGN CHOICE, log 14). -/
def takeSource : List Byte → Option (Option Address × List Byte)
  | [] => none
  | g :: rest =>
    if g = 0#8 then some (none, rest)
    else if g = 1#8 then
      match takeAddress rest with
      | some (a, rest) => some (some a, rest)
      | none => none
    else none

/-- Read a length byte, at most 127, and that many bytes (R111, R114). -/
def takeCounted : List Byte → Option (List Byte × List Byte)
  | [] => none
  | n :: rest =>
    if n.toNat ≤ 127 ∧ n.toNat ≤ rest.length then some (rest.take n.toNat, rest.drop n.toNat) else none

/-- `flags`: bit 0 `sec`, bit 1 `ackreq`, other bits 0 (R111). -/
def flagsOfByte (b : Byte) : Option (Bool × Bool) :=
  if b.extractLsb' 2 6 = 0#6 then some (b.getLsbD 0, b.getLsbD 1) else none

/-- The `flags` byte. -/
def flagsByte (sec ackreq : Bool) : Byte := 0#6 ++ BitVec.ofBool ackreq ++ BitVec.ofBool sec

/-- A command whose only operand is a counted byte string. -/
def decodeBytesOp (ops : List Byte) (mk : List Byte → Instr) : Option Instr :=
  match takeCounted ops with
  | some (bs, rest) => endOf rest (mk bs)
  | none => none

/-- Operands of ENCODE_HDR from `cmd[4]`. -/
def decodeEncodeOps (h : Handle) : List Byte → Option Instr
  | t :: f :: seq :: rest =>
    match flagsOfByte f, takeAddress rest with
    | some (sec, ackreq), some (dst, rest) =>
      match takeSource rest with
      | some (src, rest) => endOf rest (.encodeHdr h t sec ackreq seq dst src)
      | none => none
    | _, _ => none
  | _ => none

/-- Operands of TX_FRAME from `cmd[4]`. -/
def decodeTxOps (h : Handle) : List Byte → Option Instr
  | t :: f :: rest =>
    match flagsOfByte f, takeAddress rest with
    | some (sec, ackreq), some (dst, rest) =>
      match takeSource rest with
      | some (src, rest) =>
        match takeCounted rest with
        | some (payload, rest) => endOf rest (.txFrame h t sec ackreq dst src payload)
        | none => none
      | none => none
    | _, _ => none
  | _ => none

/-- Operands of CLASSIFY from `cmd[4]`. -/
def decodeClassifyOps (h : Handle) (ops : List Byte) : Option Instr :=
  match takeAddress ops with
  | some (dst, m :: rest) =>
    match modeOfByte m with
    | some mode => endOf rest (.classify h dst mode)
    | none => none
  | _ => none

/-- The operands of a command whose opcode is listed; `none` is `BadOperand`. `slot`, `gen` and `reg` must be 0 where
the operation does not use them (R110, R114); CFG_READ and CFG_WRITE use the handle for `reg` >= 0x10 only (R111). -/
def decodeOps (op : Opcode) (slot gen reg : Byte) (ops : List Byte) : Option Instr :=
  match op with
  | .ifAdd =>
    match ops with
    | t :: rest =>
      match takeLong rest with
      | some (hw, rest) => if allZero [slot, gen, reg] then endOf rest (.ifAdd t hw) else none
      | none => none
    | [] => none
  | .ifRemove => if allZero [reg] then endOf ops (.ifRemove ⟨slot, gen⟩) else none
  | .devUnregister => if allZero [slot, gen, reg] then endOf ops .devUnregister else none
  | .devFree => if allZero [slot, gen, reg] then endOf ops .devFree else none
  | .cfgRead => if handleUsed ⟨slot, gen⟩ reg then endOf ops (.cfgRead ⟨slot, gen⟩ reg) else none
  | .cfgWrite =>
    match ops with
    | b0 :: b1 :: b2 :: b3 :: b4 :: b5 :: b6 :: b7 :: rest =>
      if handleUsed ⟨slot, gen⟩ reg then endOf rest (.cfgWrite ⟨slot, gen⟩ reg (le64 b0 b1 b2 b3 b4 b5 b6 b7)) else none
    | _ => none
  | .decodeHdr => if allZero [slot, gen, reg] then decodeBytesOp ops .decodeHdr else none
  | .encodeHdr => if allZero [reg] then decodeEncodeOps ⟨slot, gen⟩ ops else none
  | .buildAck =>
    match ops with
    | seq :: rest => if allZero [slot, gen, reg] then endOf rest (.buildAck seq) else none
    | [] => none
  | .crcCompute => if allZero [slot, gen, reg] then decodeBytesOp ops .crcCompute else none
  | .crcAppend => if allZero [slot, gen, reg] then decodeBytesOp ops .crcAppend else none
  | .crcVerify => if allZero [slot, gen, reg] then decodeBytesOp ops .crcVerify else none
  | .classify => if allZero [reg] then decodeClassifyOps ⟨slot, gen⟩ ops else none
  | .rxFrame => if allZero [slot, gen, reg] then decodeBytesOp ops .rxFrame else none
  | .txFrame => if allZero [reg] then decodeTxOps ⟨slot, gen⟩ ops else none

/-- The operands of a listed opcode from the bytes after `cmd[0]`; a descriptor of fewer than 4 bytes is short. -/
def decodeBody (op : Opcode) : List Byte → Option Instr
  | slot :: gen :: reg :: ops => decodeOps op slot gen reg ops
  | _ => none

/-- The decoder of command descriptors: `IllegalCommand` is tested before `BadOperand` (R343); a descriptor with no
byte at all is `BadOperand` (DESIGN CHOICE, log 17). -/
def decodeCmd : List Byte → Except DecodeError Instr
  | [] => .error .badOperand
  | b :: rest =>
    match opcodeOfByte b with
    | none => .error .illegalCommand
    | some op =>
      match decodeBody op rest with
      | some i => .ok i
      | none => .error .badOperand

/-- The decoder, by port. On `PHY_RX` the word is the first two bytes, low byte first (R93). -/
def decode (p : Port) (bs : List Byte) : Except DecodeError Instr :=
  match p with
  | .cmd => decodeCmd bs
  | .phyRx =>
    match bs with
    | b0 :: b1 :: _ => decodeFc (le16 b0 b1)
    | _ => .error (.frame .tooShort)

/-! ## The encoder -/

/-- An `AddressOp` (R112). -/
def addressOp : Address → List Byte
  | .none => [Mode.byte .none]
  | .short p a => [Mode.byte .short] ++ halfBytes p ++ halfBytes a
  | .long p a => [Mode.byte .long] ++ halfBytes p ++ a.bytes

/-- `src_given` and the source. -/
def sourceOp : Option Address → List Byte
  | none => [0#8]
  | some a => 1#8 :: addressOp a

/-- A length byte and the bytes. -/
def countedOp (bs : List Byte) : List Byte := BitVec.ofNat 8 bs.length :: bs

/-- `cmd[0..3]` (R110). -/
def cmdHead (op : Opcode) (slot gen reg : Byte) : List Byte := [op.byte, slot, gen, reg]

/-- The port an instruction arrives on. -/
def portOf : Instr → Port
  | .frameBeacon _ | .frameData _ | .frameAck _ | .frameMaccmd _ | .frameUnrecognized _ _ => .phyRx
  | .ifAdd _ _ | .ifRemove _ | .devUnregister | .devFree | .cfgRead _ _ | .cfgWrite _ _ _ | .decodeHdr _
  | .encodeHdr _ _ _ _ _ _ _ | .buildAck _ | .crcCompute _ | .crcAppend _ | .crcVerify _ | .classify _ _ _
  | .rxFrame _ | .txFrame _ _ _ _ _ _ _ => .cmd

/-- The bytes of an instruction: a command descriptor (R110, R111), or a frame control word, low byte first (R93). -/
def encode : Instr → List Byte
  | .ifAdd t hw => cmdHead .ifAdd 0 0 0 ++ [t] ++ hw.bytes
  | .ifRemove h => cmdHead .ifRemove h.slot h.gen 0
  | .devUnregister => cmdHead .devUnregister 0 0 0
  | .devFree => cmdHead .devFree 0 0 0
  | .cfgRead h reg => cmdHead .cfgRead h.slot h.gen reg
  | .cfgWrite h reg v => cmdHead .cfgWrite h.slot h.gen reg ++ valueBytes v
  | .decodeHdr bs => cmdHead .decodeHdr 0 0 0 ++ countedOp bs
  | .encodeHdr h t sec ackreq seq dst src =>
    cmdHead .encodeHdr h.slot h.gen 0 ++ [t, flagsByte sec ackreq, seq] ++ addressOp dst ++ sourceOp src
  | .buildAck seq => cmdHead .buildAck 0 0 0 ++ [seq]
  | .crcCompute bs => cmdHead .crcCompute 0 0 0 ++ countedOp bs
  | .crcAppend bs => cmdHead .crcAppend 0 0 0 ++ countedOp bs
  | .crcVerify bs => cmdHead .crcVerify 0 0 0 ++ countedOp bs
  | .classify h dst mode => cmdHead .classify h.slot h.gen 0 ++ addressOp dst ++ [mode.byte]
  | .rxFrame bs => cmdHead .rxFrame 0 0 0 ++ countedOp bs
  | .txFrame h t sec ackreq dst src payload =>
    cmdHead .txFrame h.slot h.gen 0 ++ [t, flagsByte sec ackreq] ++ addressOp dst ++ sourceOp src ++
      countedOp payload
  | .frameBeacon f => halfBytes (f.word 0#3)
  | .frameData f => halfBytes (f.word 1#3)
  | .frameAck f => halfBytes (f.word 2#3)
  | .frameMaccmd f => halfBytes (f.word 3#3)
  | .frameUnrecognized tt f => halfBytes (f.word (1#1 ++ tt))

/-! ## The host's numbering of an instruction's bits -/

/-- The longest instruction: a TX_FRAME with two long addresses and 127 bytes of payload. -/
def maxInstrBytes : Nat := 157

/-- The bytes of an instruction whose bits are numbered as spec/opcode_table.json numbers them: bit 0 is the least
significant bit of the first byte; every bit above `nbits` is 0. -/
def tableBytes (nbits w : Nat) : List Byte :=
  (List.range maxInstrBytes).map (fun k => BitVec.ofNat 8 ((w % 2 ^ nbits) >>> (8 * k)))

/-- The port a table row belongs to: the 16-bit rows (format FC16) are frame control words, the others commands
(log 20). -/
def tablePort (nbits : Nat) : Port := if nbits = 16 then .phyRx else .cmd

/-- What the decoder reads from an instruction whose bits are `w`. -/
def decodeTableWord (nbits w : Nat) : Option Instr :=
  match decode (tablePort nbits) (tableBytes nbits w) with
  | .ok i => some i
  | .error _ => none

end Sys2Proof
end

