-- ==== Sys2Proof/Machine/State.lean ====
section
/-! DEFINITION. The state of the block as plain data: the physical device (R22 to R28), the interface bank (R30 to R33),
the per-frame contexts (R40 to R44), the waits in progress of the agents (R7), the ports (R9), and the model's own
schedule and free-value counter. -/

namespace Sys2Proof.Machine

/-! ## Device and interface bank -/

/-- `DEV.life` (R22) -/
inductive Life where
  | live
  | draining
  | released
  | fatal
  deriving DecidableEq, Repr, Inhabited

/-- `DEV.fatal_cause` (R23) -/
inductive FatalCause where
  | none
  | nonEmptyFree
  | typeTag
  deriving DecidableEq, Repr, Inhabited

/-- The device-type tag of an interface (R30). -/
inductive IfType where
  | ordinary
  | monitor
  deriving DecidableEq, Repr, Inhabited

/-- The fields of a bound interface (R30) other than `valid` and `gen`. -/
structure Iface where
  type : IfType
  pan : Half
  short : Half
  channel : Byte
  hwAddr : LongAddr
  bcastAddr : LongAddr
  dsn : Byte
  bsn : Byte
  coord : Bool
  deriving DecidableEq, Repr, Inhabited

/-- What a slot holds. `free`: no value (R31). `bound`: `valid` = 1. `unlinked`: `valid` = 0, the fields keep their last
values until the grace period ends (R221, R222). -/
inductive Occupant where
  | free
  | bound (i : Iface)
  | unlinked (i : Iface)
  deriving DecidableEq, Repr, Inhabited

/-- One slot of the interface bank: the generation and the occupant (R30, R31). -/
structure Slot where
  gen : Byte
  occ : Occupant
  deriving DecidableEq, Repr, Inhabited

/-- The address-filter values last pushed to the radio (R25). -/
structure Filter where
  pan : Half
  short : Half
  long : LongAddr
  deriving DecidableEq, Repr, Inhabited

/-- Who queued an `Xmit` item (R26): the TX_FRAME call `k`, or acknowledgement synthesis. -/
inductive Origin where
  | txCall (k : Nat)
  | ackSynth
  deriving DecidableEq, Repr, Inhabited

/-- An `Xmit` work item (R26); its `len` is the frame's length. -/
structure Xmit where
  frame : List Byte
  channel : Byte
  origin : Origin
  deriving DecidableEq, Repr, Inhabited

/-- A work item (R26). -/
inductive WorkItem where
  | xmit (x : Xmit)
  | filterUpdate (h : Handle)
  deriving DecidableEq, Repr, Inhabited

/-- The result of an `Xmit` item (R315). -/
inductive XmitResult where
  | ok
  | deviceBusy
  | reconfigurationFailure
  deriving DecidableEq, Repr, Inhabited

/-- Where the WORK agent stands between two atomic steps or transactions (R314, R315, R320). -/
inductive WorkStage where
  /-- no item is being executed: `wq_busy` = 0 -/
  | idle
  /-- an item was taken -/
  | start (w : WorkItem)
  /-- the channel differs: `set_channel` is to be requested -/
  | tune (x : Xmit)
  /-- `set_channel` was requested, its answer is awaited -/
  | tuning (x : Xmit)
  /-- `set_channel` answered Ok: `DEV.cur_channel` is to be written -/
  | tuned (x : Xmit)
  /-- the frame is to be handed to the radio -/
  | send (x : Xmit)
  /-- `transmit` was requested, its answer is awaited -/
  | sending (x : Xmit)
  /-- the result is to be reported (R318) -/
  | report (x : Xmit) (r : XmitResult)
  /-- `filter_update` is to be issued with the values read -/
  | filterSend (v : Filter)
  /-- `DEV.filter` is to be written -/
  | filterSet (v : Filter)
  /-- `wq_busy` is to be cleared -/
  | finishing
  deriving DecidableEq, Repr, Inhabited

/-- Where the HOST agent stands: idle, or in one of the waits of IF_REMOVE (R220), DEV_UNREGISTER (R225) and DEV_FREE
(R228), with the ticket of the command it will answer. -/
inductive HostStage where
  | idle
  /-- IF_REMOVE waits out the grace period of a slot -/
  | removing (ticket slot : Nat)
  /-- DEV_UNREGISTER looks for the next bound slot -/
  | unregistering (ticket : Nat)
  /-- DEV_UNREGISTER waits out the grace period of a slot -/
  | unlinking (ticket slot : Nat)
  /-- waits for an empty work queue and an idle WORK agent (R226) -/
  | draining (ticket : Nat)
  /-- waits for the traversals to end -/
  | settling (ticket : Nat)
  /-- is to write `Released` and answer -/
  | releasing (ticket : Nat)
  deriving DecidableEq, Repr, Inhabited

/-! ## Per-frame state -/

/-- Delivery scope (R13). -/
inductive Scope where
  | host
  | broadcast
  | otherHost
  deriving DecidableEq, Repr, Inhabited

/-- The metadata slot `MD` (R40). -/
structure Md where
  fc : Half
  type : BitVec 3
  sec : Bool
  ackreq : Bool
  intrapan : Bool
  dam : BitVec 2
  sam : BitVec 2
  seq : Byte
  dst : Address
  src : Address
  hdrLen : Nat
  /-- unset until the per-interface handle writes it -/
  scope : Option Scope
  deriving DecidableEq, Repr, Inhabited

/-- A frame copy (R43). The original keeps the stripped checksum bytes beyond `len` (R253). -/
structure Copy where
  bytes : List Byte
  len : Nat
  md : Md
  deriving DecidableEq, Repr, Inhabited

/-- The outcome of one interface's copy (R42, R275). -/
inductive CopyOutcome where
  /-- handed to a collaborator; for a MAC command with the handler's delivery result (R278) -/
  | delivered (r : Option DeliveryResult)
  | consumed
  | unsupportedFrameType
  | cloneFailed
  deriving DecidableEq, Repr, Inhabited

/-- Where one interface's handle stands (R264, R270 to R280). -/
inductive Stage where
  /-- the clone is to be made -/
  | clone
  | classify
  | ackCheck
  /-- acknowledgement synthesis reads the current channel (R273) -/
  | synthRead
  /-- acknowledgement synthesis queues the frame for the channel read -/
  | synthQueue (channel : Byte)
  | dispatch
  /-- `BPARSE.parse` was called, its answer is awaited (R276) -/
  | parsing
  /-- `CMDH.handle` was called, its answer is awaited (R278) -/
  | commanding
  /-- the slot is to be released from the traversal (R280) -/
  | finish (o : CopyOutcome)
  deriving DecidableEq, Repr, Inhabited

/-- One interface's handle of the frame in progress: its slot, its own copy and its stage. The copy of the handle that is
`original` is the received buffer with `RXC.MD` itself (R43, R265). -/
structure HandleCtx where
  slot : Nat
  original : Bool
  copy : Copy
  stage : Stage
  deriving DecidableEq, Repr, Inhabited

/-- Why a received frame ended in `Dropped` (R42); `malformed` keeps its cause (R256). -/
inductive DropReason where
  | badChecksum
  | malformed (e : HdrError)
  | noInterface
  deriving DecidableEq, Repr, Inhabited

/-- The receive state `RXC.st` (R42). `fanout` carries `RXC.MD`, the slots still to be visited and the slots taken;
`handling` the handles not yet finished, with `RXC.MD` in the original's (R43). -/
inductive RxState where
  | checksumCheck
  | decode
  | fanout (md : Md) (todo taken : List Nat)
  | handling (handles : List HandleCtx)
  | dropped (r : DropReason)
  | done
  deriving DecidableEq, Repr, Inhabited

/-- Where a frame came from: the radio, or the RX_FRAME command with a ticket (R111). -/
inductive FrameSource where
  | radio
  | command (ticket : Nat)
  deriving DecidableEq, Repr, Inhabited

/-- The receive context `RXC` (R41, R42), with the outcomes of the copies already finished. `RXC.MD` is stored once, in
`st` (`RxCtx.md`). -/
structure RxCtx where
  source : FrameSource
  buf : List Byte
  len : Nat
  cur : Nat
  st : RxState
  outcomes : List (Nat × CopyOutcome)
  deriving DecidableEq, Repr, Inhabited

/-- The transmit buffer of `TXC` (R44): 150 bytes, the frame is `buf[start..stop)`. -/
structure TxBuf where
  buf : List Byte
  start : Nat
  stop : Nat
  deriving DecidableEq, Repr, Inhabited

/-- The interface fields TX_FRAME reads in one atomic step (R303). -/
structure Snap where
  pan : Half
  short : Half
  hwAddr : LongAddr
  channel : Byte
  deriving DecidableEq, Repr, Inhabited

/-- Where a TX_FRAME call stands (R300): after step 3, after step 4, after step 6, waiting for its item, result
delivered. -/
inductive TxStage where
  | snapped
  | numbered (seq : Byte)
  | built
  | waiting
  | completed (r : XmitResult)
  deriving DecidableEq, Repr, Inhabited

/-- A TX_FRAME call in progress: `k` is its ticket; `src` is the source given or synthesized. -/
structure TxCtx where
  k : Nat
  h : Handle
  type : BitVec 3
  ackreq : Bool
  dst : Address
  src : Address
  payload : List Byte
  snap : Snap
  txc : TxBuf
  stage : TxStage
  deriving DecidableEq, Repr, Inhabited

/-! ## Ports -/

/-- The events of R347. -/
inductive EventCode where
  | securityFrameDropped
  | unsupportedFrameType
  | ackWithoutHwAck
  | ackNotSent
  | fatalNonEmptyFree
  deriving DecidableEq, Repr, Inhabited

/-- A transaction on an output port (R9). -/
inductive PortOut where
  /-- `PHY_TX.transmit` -/
  | transmit (frame : List Byte) (channel : Byte)
  /-- `PHY_CTL.set_channel` -/
  | setChannel (channel : Byte)
  /-- `PHY_CTL.filter_update` -/
  | filterUpdate (pan short : Half) (long : LongAddr)
  /-- `BPARSE.parse` -/
  | parse (c : Copy)
  /-- `BCACHE.record` -/
  | record (addr : Address)
  /-- `CMDH.handle` -/
  | handle (slot : Nat) (c : Copy)
  /-- `NETQ.enqueue` -/
  | enqueue (slot : Nat) (c : Copy)
  /-- `EVT.event` -/
  | event (code : EventCode) (info : Nat)
  /-- the response to the command with that ticket -/
  | response (ticket : Nat) (bytes : List Byte)
  deriving DecidableEq, Repr, Inhabited

/-! ## The schedule -/

/-- A move an agent can make, or the reset from outside. The index picks among the choices the spec leaves open at that point: the slot to remove
next, the slot to visit or the handle to run next, the call, the work item to take. -/
inductive Move where
  /-- take the command at the head of CMD -/
  | cmd
  /-- take the frame at the head of PHY_RX -/
  | phy
  | host (j : Nat)
  | rx (j : Nat)
  | tx (k : Nat)
  | work (j : Nat)
  /-- the reset is applied (R380) -/
  | reset
  deriving DecidableEq, Repr, Inhabited

/-- A scheduled move, and how many further atomic steps the same agent takes before another agent may move. -/
structure Pick where
  move : Move
  burst : Nat
  deriving DecidableEq, Repr, Inhabited

/-! ## The whole state -/

/-- The state of the block and of its ports. -/
structure State where
  /-- the parameters of R5 -/
  cfg : Config
  life : Life
  fatalCause : FatalCause
  curChannel : Byte
  filter : Option Filter
  /-- `DEV.wq` -/
  wq : List WorkItem
  /-- the WORK agent; `DEV.wq_busy` is `work` not idle -/
  work : WorkStage
  cntBadcsum : Counter
  cntMalformed : Counter
  /-- the interface bank; its length is `N_IF` -/
  slots : List Slot
  /-- the RX agent's frame, with `DEV.trav` in it -/
  rx : Option RxCtx
  /-- the TX_FRAME calls in progress -/
  tx : List TxCtx
  host : HostStage
  /-- commands presented on CMD and not yet taken, first first -/
  cmdIn : List (List Byte)
  /-- frames that arrived on PHY_RX and are not yet taken, first first -/
  phyIn : List (List Byte)
  /-- a reset is applied from outside and has not yet taken effect (R380) -/
  resetIn : Bool
  /-- answers the radio gives to the next `set_channel` requests -/
  setChans : List ChannelAnswer
  /-- answers the radio gives to the next `transmit` requests -/
  transmits : List TransmitAnswer
  /-- answers of the beacon parser -/
  parses : List (Option Parsed)
  /-- answers of the command handler -/
  handled : List DeliveryResult
  /-- transactions issued on the output ports, oldest first -/
  out : List PortOut
  /-- the number of the command taken last -/
  ticket : Nat
  /-- who moves next -/
  sched : List Pick
  /-- how many further atomic steps the agent now moving takes -/
  burst : Nat
  /-- what IF_ADD draws next for `dsn` and `bsn` -/
  seqs : List Byte
  /-- whether the next clones can be made -/
  clones : List Bool
  /-- the counter the free values of `Config` are applied to -/
  drawn : Nat
  deriving DecidableEq, Repr, Inhabited

/-- Why the model stops. -/
inductive Fault where
  /-- A per-interface handle would read the fields of a slot that holds no value. Raised by the classification step of
  RX_FRAME's handle only. R31: the fields of a free slot "hold no value and are never read", so no run reaches it.
  Safe: the model stops where the spec gives no value. -/
  | freeSlotRead
  deriving DecidableEq, Repr, Inhabited

/-- Why an instruction has no meaning in the model. -/
inductive Refusal where
  /-- The instruction has no meaning yet. Raised by no arm of `exec`. Safe. -/
  | notModelled (mnemonic : String)
  deriving DecidableEq, Repr, Inhabited

/-- A slot after reset: `valid` = 0, `gen` = 0, no other value (R47). -/
def Slot.reset : Slot := ⟨0#8, .free⟩

/-- The state right after reset of a block built with configuration `c` (R47, R380). The model's own fields are empty
or 0 (DESIGN CHOICE, log 1, 6, 7, 9, 18, 27, 40). -/
def State.resetWith (c : Config) : State where
  cfg := c
  life := .live
  fatalCause := .none
  curChannel := c.chanNone
  filter := none
  wq := []
  work := .idle
  cntBadcsum := 0
  cntMalformed := 0
  slots := List.replicate c.nIf Slot.reset
  rx := none
  tx := []
  host := .idle
  cmdIn := []
  phyIn := []
  resetIn := false
  setChans := []
  transmits := []
  parses := []
  handled := []
  out := []
  ticket := 0
  sched := []
  burst := 0
  seqs := []
  clones := []
  drawn := 0

/-- The state right after reset, for the reference configuration (log 4). -/
def State.reset : State := State.resetWith Config.reference

end Sys2Proof.Machine
end

