-- ==== Sys2Proof/Machine/Ops.lean ====
section
/-! DEFINITION. The shared operations: constants, status and event codes (R341, R347), answering and refusing (R345),
bounded buffer reads and writes (R62, R64), the handle check (R33), the interface bank, the traversal set, the work
queue, and the draws of open values (R12 `choose`). -/

namespace Sys2Proof.Machine

/-! ## Constants (R5, R14, R30, R44) -/

/-- `MAX_FRAME` -/
def maxFrame : Nat := 127

/-- `HDR_MIN` -/
def hdrMin : Nat := 3

/-- `HDR_MAX`: the payload's offset in the transmit buffer -/
def hdrMax : Nat := 23

/-- `FCS_LEN` -/
def fcsLen : Nat := 2

/-- The size of the transmit buffer (R44). -/
def txBufSize : Nat := 150

/-- `PAN_BROADCAST` -/
def panBroadcast : Half := 0xFFFF#16

/-- `SHORT_BROADCAST` -/
def shortBroadcast : Half := 0xFFFF#16

/-- `SHORT_UNDEF` -/
def shortUndef : Half := 0xFFFE#16

/-- A generation one more, modulo 2^`GEN_WIDTH` (R220, R5). -/
def nextGen (cfg : Config) (g : Byte) : Byte := BitVec.ofNat 8 ((g.toNat + 1) % 2 ^ cfg.genWidth)

/-- A drop counter one more, modulo 2^`CNT_WIDTH` (R27, R5). -/
def nextCount (cfg : Config) (n : Counter) : Counter := (n + 1) % 2 ^ cfg.cntWidth

/-- The long broadcast address of every interface (R30). -/
def bcastAddrAll : LongAddr := ⟨0xFF#8, 0xFF#8, 0xFF#8, 0xFF#8, 0xFF#8, 0xFF#8, 0xFF#8, 0xFF#8⟩

/-! ## Codes -/

/-- The outcomes of R341, one name per code and detail. -/
inductive Status where
  | ok
  | badChecksum
  | tooShort
  | badAddrMode
  | badAckShape
  | badAddrCombo
  | truncated
  | unsupportedFeature
  | noInterface
  | unsupportedFrameType
  | cloneFailed
  | tableFull
  | queueFull
  | deviceBusy
  | reconfigurationFailure
  | noDestination
  | encodeAckShape
  | encodeBadType
  | frameTooLong
  | channelUnset
  | badHandle
  | badRegister
  | readOnly
  | badOperand
  | illegalCommand
  | deviceGone
  | fatalNonEmptyFree
  | fatalTypeTag
  deriving DecidableEq, Repr, Inhabited

/-- The code column of R341. -/
def Status.code : Status → Byte
  | .ok => 0x00#8
  | .badChecksum => 0x01#8
  | .tooShort | .badAddrMode | .badAckShape | .badAddrCombo | .truncated => 0x02#8
  | .unsupportedFeature => 0x03#8
  | .noInterface => 0x04#8
  | .unsupportedFrameType => 0x05#8
  | .cloneFailed | .tableFull | .queueFull => 0x06#8
  | .deviceBusy => 0x07#8
  | .reconfigurationFailure => 0x08#8
  | .noDestination | .encodeAckShape | .encodeBadType => 0x09#8
  | .frameTooLong => 0x0A#8
  | .channelUnset => 0x0B#8
  | .badHandle => 0x0C#8
  | .badRegister => 0x0D#8
  | .readOnly => 0x0E#8
  | .badOperand => 0x0F#8
  | .illegalCommand => 0x10#8
  | .deviceGone => 0x11#8
  | .fatalNonEmptyFree | .fatalTypeTag => 0x12#8

/-- The detail column of R341; 0 where the code has none. -/
def Status.detail : Status → Byte
  | .tooShort => 1#8
  | .badAddrMode => 2#8
  | .badAckShape => 3#8
  | .badAddrCombo => 4#8
  | .truncated => 5#8
  | .cloneFailed => 1#8
  | .tableFull => 2#8
  | .queueFull => 3#8
  | .noDestination => 1#8
  | .encodeAckShape => 2#8
  | .encodeBadType => 3#8
  | .fatalNonEmptyFree => 1#8
  | .fatalTypeTag => 2#8
  | .ok | .badChecksum | .unsupportedFeature | .noInterface | .unsupportedFrameType | .deviceBusy
  | .reconfigurationFailure | .frameTooLong | .channelUnset | .badHandle | .badRegister | .readOnly | .badOperand
  | .illegalCommand | .deviceGone => 0#8

/-- The status of a DECODE_HDR failure (R341). -/
def Status.ofHdr : HdrError → Status
  | .tooShort => .tooShort
  | .unsupportedFeature => .unsupportedFeature
  | .badAddrMode => .badAddrMode
  | .badAckShape => .badAckShape
  | .badAddrCombo => .badAddrCombo
  | .truncated => .truncated

/-- The status of a command that does not decode (R114). -/
def Status.ofDecode : DecodeError → Status
  | .illegalCommand => .illegalCommand
  | .badOperand => .badOperand
  | .frame e => Status.ofHdr e

/-- The response of TX_FRAME for its item's result (R311). -/
def Status.ofXmit : XmitResult → Status
  | .ok => .ok
  | .deviceBusy => .deviceBusy
  | .reconfigurationFailure => .reconfigurationFailure

/-- The event codes of R347. -/
def EventCode.number : EventCode → Nat
  | .securityFrameDropped => 1
  | .unsupportedFrameType => 2
  | .ackWithoutHwAck => 3
  | .ackNotSent => 4
  | .fatalNonEmptyFree => 5

/-- The terminal-state codes of RX_FRAME (R113). -/
def DropReason.code : DropReason → Byte
  | .badChecksum => 1#8
  | .malformed _ => 2#8
  | .noInterface => 4#8

/-- The `DEV.life` encoding of `DEV_STATUS` (R22). -/
def Life.bits : Life → BitVec 2
  | .live => 0#2
  | .draining => 1#2
  | .released => 2#2
  | .fatal => 3#2

/-- The `DEV.fatal_cause` encoding of `DEV_STATUS` (R23). -/
def FatalCause.bits : FatalCause → BitVec 2
  | .none => 0#2
  | .nonEmptyFree => 1#2
  | .typeTag => 2#2

/-! ## Outcomes -/

/-- Go on from a next state; a fault or a refusal ends the step. -/
def andThen (o : Host.Outcome State Fault Refusal) (f : State → Host.Outcome State Fault Refusal) :
    Host.Outcome State Fault Refusal :=
  match o with
  | .next s => f s
  | .fault r => .fault r
  | .refused r => .refused r

/-! ## Output ports -/

/-- Issue one transaction on an output port (R9, R12 `emit`). -/
def State.emit (s : State) (o : PortOut) : State := { s with out := s.out ++ [o] }

/-- `EVT.event(code, info)`; it changes no state of the block (R347). -/
def State.event (s : State) (c : EventCode) (info : Nat) : State := s.emit (.event c info)

/-- The response to the command with ticket `k` (R110). -/
def State.answer (s : State) (k : Nat) (bytes : List Byte) : State := s.emit (.response k bytes)

/-- The response bytes of a refusal: code and detail (R110, R341). -/
def Status.bytes (e : Status) : List Byte := [e.code, e.detail]

/-- The response bytes of a bare result: `Ok` has no detail byte (R110). -/
def Status.result (e : Status) : List Byte := if e = .ok then [0#8] else e.bytes

/-- The command in hand succeeds with these result bytes (R110). -/
def State.respond (s : State) (result : List Byte) : State := s.answer s.ticket (0#8 :: result)

/-- The command in hand is refused: it answers and changes nothing else (R340, R345). -/
def State.refuse (s : State) (e : Status) : State := s.answer s.ticket e.bytes

/-! ## Life gates (R211, R352) -/

/-- `DEV.life` is `Live` or `Draining`. -/
def State.running (s : State) : Bool := s.life == .live || s.life == .draining

/-! ## Reset (R380) -/

/-- The reset from outside: every state element of the block gets its reset value, whatever was in progress is lost without
response, and the configuration stays (R380, R47). The ports' records and the inputs still to come are outside the block and
stay (DESIGN CHOICE, log 40). -/
def State.restarted (s : State) : State :=
  { State.resetWith s.cfg with
    cmdIn := s.cmdIn, phyIn := s.phyIn, setChans := s.setChans, transmits := s.transmits, parses := s.parses
    handled := s.handled, out := s.out, ticket := s.ticket, sched := s.sched, burst := s.burst, seqs := s.seqs
    clones := s.clones, drawn := s.drawn }

/-! ## Buffers (R62, R64) -/

/-- The byte at an offset of a buffer. -/
def byteAt (buf : List Byte) (off : Nat) : Byte := (buf[off]?).getD 0#8

/-- `MemRead(off, 2)` as a 16-bit value; `none` when it would pass the declared length (R62, R65). -/
def readHalf (buf : List Byte) (len off : Nat) : Option Half :=
  if len < off + 2 then none else some (le16 (byteAt buf off) (byteAt buf (off + 1)))

/-- `MemRead(off, 8)` as 8 bytes in buffer order; `none` when it would pass the declared length (R62). -/
def readLong (buf : List Byte) (len off : Nat) : Option LongAddr :=
  if len < off + 8 then none
  else some ⟨byteAt buf off, byteAt buf (off + 1), byteAt buf (off + 2), byteAt buf (off + 3), byteAt buf (off + 4),
    byteAt buf (off + 5), byteAt buf (off + 6), byteAt buf (off + 7)⟩

/-- `MemWrite(off, n, v)`, `n` the length of `v` (R64). -/
def memWrite (buf : List Byte) (off : Nat) (v : List Byte) : List Byte :=
  buf.take off ++ v ++ buf.drop (off + v.length)

/-- A transmit buffer nothing was written to: what its bytes hold, and where its empty frame starts and ends before the
header is written, R44 leaves open, and none of it is sent (DESIGN CHOICE, log 24). -/
def TxBuf.fresh : TxBuf := ⟨List.replicate txBufSize 0#8, hdrMax, hdrMax⟩

/-- The finished frame `buf[start..stop)` (R44). -/
def TxBuf.frame (t : TxBuf) : List Byte := (t.buf.take t.stop).drop t.start

/-! ## The interface bank (R30 to R33) -/

/-- `IF[s].valid` -/
def Slot.valid (sl : Slot) : Bool :=
  match sl.occ with
  | .bound _ => true
  | .free => false
  | .unlinked _ => false

/-- The fields a slot holds, bound or still held by a traversal (R221, R222). -/
def Slot.fields (sl : Slot) : Option Iface :=
  match sl.occ with
  | .bound i => some i
  | .unlinked i => some i
  | .free => none

/-- Write one slot. -/
def State.setSlot (s : State) (n : Nat) (sl : Slot) : State := { s with slots := s.slots.set n sl }

/-- The interface a handle names: `some` exactly when `ok(h)` (R33). -/
def State.ifaceOf (s : State) (h : Handle) : Option Iface :=
  match s.slots[h.slot.toNat]? with
  | some sl =>
    match sl.occ with
    | .bound i => if sl.gen = h.gen then some i else none
    | .free => none
    | .unlinked _ => none
  | none => none

/-- `ok(h)` (R33) -/
def State.handleOk (s : State) (h : Handle) : Bool := (s.ifaceOf h).isSome

/-- Write the fields of the interface a valid handle names. -/
def State.setIface (s : State) (h : Handle) (i : Iface) : State := s.setSlot h.slot.toNat ⟨h.gen, .bound i⟩

/-- Is a slot reusable: it is free and no grace period runs on it (R212, D21, log 11)? -/
def Slot.reusable (sl : Slot) : Bool :=
  match sl.occ with
  | .free => true
  | .bound _ => false
  | .unlinked _ => false

/-- The lowest-numbered reusable slot (R212). -/
def State.freeSlot (s : State) : Option Nat := s.slots.findIdx? Slot.reusable

/-- The numbers of the bound slots, in rising order. -/
def State.boundSlots (s : State) : List Nat :=
  (List.range s.slots.length).filter (fun n => match s.slots[n]? with | some sl => sl.valid | none => false)

/-- Unlink a bound slot: `valid` becomes 0 and `gen` one more; the fields stay for the traversals that hold the slot
(R220, R221). -/
def Slot.unlink (cfg : Config) (sl : Slot) : Slot :=
  match sl.occ with
  | .bound i => ⟨nextGen cfg sl.gen, .unlinked i⟩
  | .free => sl
  | .unlinked _ => sl

/-- The unlink step on slot `n`. -/
def State.unlink (s : State) (n : Nat) : State :=
  match s.slots[n]? with
  | some sl => s.setSlot n (sl.unlink s.cfg)
  | none => s

/-- The grace period of slot `n` is over: its fields hold no value any more (R221). -/
def State.vacate (s : State) (n : Nat) : State :=
  match s.slots[n]? with
  | some sl => s.setSlot n ⟨sl.gen, .free⟩
  | none => s

/-! ## Traversals (R28) -/

/-- The slots a frame's traversal holds: those the fan-out has taken, then those whose handles have not finished. -/
def RxState.held : RxState → Option (List Nat)
  | .fanout _ _ taken => some taken
  | .handling hs => some (hs.map HandleCtx.slot)
  | .checksumCheck => none
  | .decode => none
  | .dropped _ => none
  | .done => none

/-- `RXC.MD` (R41): what the fan-out carries, then the original's own metadata, one and the same (R43). -/
def RxCtx.md (c : RxCtx) : Option Md :=
  match c.st with
  | .fanout md _ _ => some md
  | .handling hs => (hs.find? HandleCtx.original).map (fun h => h.copy.md)
  | .checksumCheck => none
  | .decode => none
  | .dropped _ => none
  | .done => none

/-- `DEV.trav`: the receive traversals in progress, each with the slots it holds. -/
def State.trav (s : State) : List (List Nat) :=
  match s.rx with
  | some c => (c.st.held).toList
  | none => []

/-- Some traversal holds slot `n` (R222). -/
def State.holds (s : State) (n : Nat) : Bool := s.trav.any (fun t => t.contains n)

/-- Write the RX agent's context. -/
def State.setRx (s : State) (c : Option RxCtx) : State := { s with rx := c }

/-- Write the HOST agent's stage. -/
def State.setHost (s : State) (h : HostStage) : State := { s with host := h }

/-- Write the WORK agent's stage. -/
def State.setWork (s : State) (w : WorkStage) : State := { s with work := w }

/-- Write the TX_FRAME calls in progress. -/
def State.setTx (s : State) (l : List TxCtx) : State := { s with tx := l }

/-! ## The work queue (R26) -/

/-- `DEV.wq_busy` -/
def State.wqBusy (s : State) : Bool := s.work != .idle

/-- `DEV.wq` holds `WQ_DEPTH` items. -/
def State.wqFull (s : State) : Bool := decide (s.cfg.wqDepth ≤ s.wq.length)

/-- Add an item to `DEV.wq`. -/
def State.pushWork (s : State) (w : WorkItem) : State := { s with wq := s.wq ++ [w] }

/-! ## Open values (R12 `choose`) and the environment's answers -/

/-- `choose in 0..255` for a sequence counter (R212, log 6). -/
def State.drawSeq (s : State) : Byte × State :=
  match s.seqs with
  | b :: bs => (b, { s with seqs := bs })
  | [] => (Config.freeSeq s.drawn, { s with drawn := s.drawn + 1 })

/-- `choose ok in {true, false}` for a clone (R264, log 7). -/
def State.drawClone (s : State) : Bool × State :=
  match s.clones with
  | b :: bs => (b, { s with clones := bs })
  | [] => (Config.freeClone s.drawn, { s with drawn := s.drawn + 1 })

/-- The radio answers `set_channel` (R355, log 9). -/
def State.nextSetChannel (s : State) : ChannelAnswer × State :=
  match s.setChans with
  | a :: as => (a, { s with setChans := as })
  | [] => (Config.freeSetChannel s.drawn, { s with drawn := s.drawn + 1 })

/-- The radio answers `transmit` (R355, log 9). -/
def State.nextTransmit (s : State) : TransmitAnswer × State :=
  match s.transmits with
  | a :: as => (a, { s with transmits := as })
  | [] => (Config.freeTransmit s.drawn, { s with drawn := s.drawn + 1 })

/-- The beacon parser answers (R276, log 9). -/
def State.nextParse (s : State) : Option Parsed × State :=
  match s.parses with
  | a :: as => (a, { s with parses := as })
  | [] => (Config.freeParse s.drawn, { s with drawn := s.drawn + 1 })

/-- The command handler answers (R278, log 9). -/
def State.nextHandled (s : State) : DeliveryResult × State :=
  match s.handled with
  | a :: as => (a, { s with handled := as })
  | [] => (Config.freeHandled s.drawn, { s with drawn := s.drawn + 1 })

/-! ## Lists whose order the spec leaves open -/

/-- Bring the element with index `j` to the front; an index past the end changes nothing. -/
def toFront {α : Type} (l : List α) (j : Nat) : List α :=
  match l[j]? with
  | some x => x :: l.eraseIdx j
  | none => l

/-- Move the element with index `j` to the end; an index past the end changes nothing. -/
def toBack {α : Type} (l : List α) (j : Nat) : List α :=
  match l[j]? with
  | some x => l.eraseIdx j ++ [x]
  | none => l

end Sys2Proof.Machine
end

