-- ==== Sys2Proof/Machine/Flags.lean ====
section
/-! DEFINITION. The flag-like state and how it is computed (R45): the metadata flags from the frame control word (R93,
R133), the frame control word the encoder assembles (R150), PAN-ID compression (R149), and the acknowledgement check on
the scope flag (R272). -/

namespace Sys2Proof.Machine

/-- The metadata of a decoded header: type, flags and modes are the fields of the frame control word (R40, R133); the
scope is unset (R140). -/
def Md.ofHeader (L : FcLayout) (fc : Half) (seq : Byte) (dst src : Address) (hdrLen : Nat) : Md where
  fc := fc
  type := fcType fc
  sec := fcSec fc
  ackreq := fcAckreq L fc
  intrapan := fcIntrapan L fc
  dam := fcDam L fc
  sam := fcSam L fc
  seq := seq
  dst := dst
  src := src
  hdrLen := hdrLen
  scope := none

/-- The frame control word of the encoder: `sec` and all reserved bits 0 (R150). -/
def fcWord (L : FcLayout) (type : BitVec 3) (ackreq ip : Bool) (dst src : Mode) : Half :=
  type.setWidth 16 ||| ((BitVec.ofBool ackreq).setWidth 16 <<< L.ackreq) |||
    ((BitVec.ofBool ip).setWidth 16 <<< L.intrapan) ||| (dst.bits.setWidth 16 <<< L.dam) |||
    (src.bits.setWidth 16 <<< L.sam)

/-- The PAN-ID compression bit: both addresses present, equal PAN ids, not the broadcast PAN (R149). -/
def compress (dst src : Address) : Bool :=
  match dst.pan?, src.pan? with
  | some d, some p => p == d && d != panBroadcast
  | _, _ => false

/-- The number of a scope in a CLASSIFY response (R113). -/
def Scope.code : Scope → Byte
  | .host => 0#8
  | .broadcast => 1#8
  | .otherHost => 2#8

/-- The acknowledgement check's condition (R272). -/
def ackDue (cfg : Config) (md : Md) : Bool :=
  md.scope == some .host && md.ackreq && !cfg.hwAck

end Sys2Proof.Machine
end

