-- ==== Sys2Proof/Machine/Operands.lean ====
section
/-! DEFINITION. The operand forms: the configuration register map with its packing (R46), the register access of
CFG_READ and CFG_WRITE, and the checks on a frame's type and destination that ENCODE_HDR and TX_FRAME share (R146, R147,
R301). -/

namespace Sys2Proof.Machine

/-- The configuration registers of R46. -/
inductive Reg where
  | devCaps
  | devStatus
  | devChannel
  | devFilter
  | devFilterLong
  | devIfcount
  | devWqlen
  | cntBadcsum
  | cntMalformed
  | ifCtrl
  | ifPan
  | ifShort
  | ifChannel
  | ifHwaddr
  | ifBcast
  | ifDsn
  | ifBsn
  deriving DecidableEq, Repr, Inhabited

/-- The register of a number, if R46 lists it. -/
def regOfByte (b : Byte) : Option Reg :=
  match b.toNat with
  | 0x00 => some .devCaps
  | 0x01 => some .devStatus
  | 0x02 => some .devChannel
  | 0x03 => some .devFilter
  | 0x04 => some .devFilterLong
  | 0x05 => some .devIfcount
  | 0x06 => some .devWqlen
  | 0x08 => some .cntBadcsum
  | 0x09 => some .cntMalformed
  | 0x10 => some .ifCtrl
  | 0x11 => some .ifPan
  | 0x12 => some .ifShort
  | 0x13 => some .ifChannel
  | 0x14 => some .ifHwaddr
  | 0x15 => some .ifBcast
  | 0x16 => some .ifDsn
  | 0x17 => some .ifBsn
  | _ => none

/-- The RW registers of R46. -/
def Reg.writable : Reg → Bool
  | .ifCtrl | .ifPan | .ifShort | .ifChannel => true
  | .devCaps | .devStatus | .devChannel | .devFilter | .devFilterLong | .devIfcount | .devWqlen | .cntBadcsum
  | .cntMalformed | .ifHwaddr | .ifBcast | .ifDsn | .ifBsn => false

/-- One bit of a register. -/
def bitAt (b : Bool) (n : Nat) : Value := (BitVec.ofBool b).setWidth 64 <<< n

/-- A long address in a register: byte `a[i]` at bits [8i+7:8i] (R46). -/
def longValue (a : LongAddr) : Value := le64 a.a0 a.a1 a.a2 a.a3 a.a4 a.a5 a.a6 a.a7

/-- `DEV_CAPS` (R46) -/
def capsValue (c : Config) : Value :=
  bitAt c.omitsChecksum 0 ||| bitAt c.hwAck 1 ||| bitAt c.addrFilter 2 |||
    bitAt (c.ackPolicy == .synthesizeAck) 3 ||| bitAt c.matchMonitor 4

/-- `DEV_STATUS` (R46) -/
def State.statusValue (s : State) : Value :=
  s.life.bits.setWidth 64 ||| (s.fatalCause.bits.setWidth 64 <<< 2) ||| bitAt s.wqBusy 4

/-- `DEV_FILTER` (R46) -/
def State.filterValue (s : State) : Value :=
  match s.filter with
  | some f => f.pan.setWidth 64 ||| (f.short.setWidth 64 <<< 16) ||| bitAt true 32
  | none => 0#64

/-- `DEV_FILTER_LONG` (R46) -/
def State.filterLongValue (s : State) : Value :=
  match s.filter with
  | some f => longValue f.long
  | none => 0#64

/-- `IF_CTRL` of a valid slot: `valid` 1, `type`, `coord`, `gen` (R46) -/
def ctrlValue (gen : Byte) (i : Iface) : Value :=
  bitAt true 0 ||| bitAt (i.type == .monitor) 1 ||| bitAt i.coord 2 ||| (gen.setWidth 64 <<< 8)

/-- The value of a device register (R46); interface registers have none here. -/
def State.devReg (s : State) : Reg → Option Value
  | .devCaps => some (capsValue s.cfg)
  | .devStatus => some s.statusValue
  | .devChannel => some (s.curChannel.setWidth 64)
  | .devFilter => some s.filterValue
  | .devFilterLong => some s.filterLongValue
  | .devIfcount => some ((BitVec.ofNat 8 s.boundSlots.length).setWidth 64)
  | .devWqlen => some ((BitVec.ofNat 8 s.wq.length).setWidth 64)
  | .cntBadcsum => some (BitVec.ofNat 64 s.cntBadcsum)
  | .cntMalformed => some (BitVec.ofNat 64 s.cntMalformed)
  | .ifCtrl | .ifPan | .ifShort | .ifChannel | .ifHwaddr | .ifBcast | .ifDsn | .ifBsn => none

/-- The value of an interface register of the interface with generation `gen` (R46). -/
def Iface.reg (i : Iface) (gen : Byte) : Reg → Option Value
  | .ifCtrl => some (ctrlValue gen i)
  | .ifPan => some (i.pan.setWidth 64)
  | .ifShort => some (i.short.setWidth 64)
  | .ifChannel => some (i.channel.setWidth 64)
  | .ifHwaddr => some (longValue i.hwAddr)
  | .ifBcast => some (longValue i.bcastAddr)
  | .ifDsn => some (i.dsn.setWidth 64)
  | .ifBsn => some (i.bsn.setWidth 64)
  | .devCaps | .devStatus | .devChannel | .devFilter | .devFilterLong | .devIfcount | .devWqlen | .cntBadcsum
  | .cntMalformed => none

/-- The fields of an interface after a write of an RW register (R234); any other register changes nothing. -/
def Iface.write (i : Iface) (r : Reg) (v : Value) : Iface :=
  match r with
  | .ifPan => { i with pan := v.extractLsb' 0 16 }
  | .ifShort => { i with short := v.extractLsb' 0 16 }
  | .ifChannel => { i with channel := v.extractLsb' 0 8 }
  | .ifCtrl => { i with coord := v.getLsbD 2 }
  | .devCaps | .devStatus | .devChannel | .devFilter | .devFilterLong | .devIfcount | .devWqlen | .cntBadcsum
  | .cntMalformed | .ifHwaddr | .ifBcast | .ifDsn | .ifBsn => i

/-- The registers whose write asks for a hardware filter update (R234, R235). -/
def Reg.filtered : Reg → Bool
  | .ifPan | .ifShort => true
  | .devCaps | .devStatus | .devChannel | .devFilter | .devFilterLong | .devIfcount | .devWqlen | .cntBadcsum
  | .cntMalformed | .ifCtrl | .ifChannel | .ifHwaddr | .ifBcast | .ifDsn | .ifBsn => false

/-- The refusals of ENCODE_HDR and of TX_FRAME's step 1, in their order (R146, R147, R301). -/
def frameRefusal (type : Byte) (sec : Bool) (dst : Address) : Option Status :=
  if dst.mode = .none then some .noDestination
  else if sec then some .unsupportedFeature
  else if type = 2#8 then some .encodeAckShape
  else if 4 ≤ type.toNat then some .encodeBadType
  else none

end Sys2Proof.Machine
end

