-- ==== Sys2Proof/Machine/Checksum.lean ====
section
/-! DEFINITION. The ChecksumUnit: the CRC (R170), and CRC_COMPUTE, CRC_APPEND, CRC_VERIFY (R172 to R176). -/

namespace Sys2Proof.Machine

/-- One shift of the register (R170). -/
def crcShift (c : Half) : Half := if c.getLsbD 0 then (c >>> 1) ^^^ 0x8408#16 else c >>> 1

/-- One byte enters the low 8 bits, then 8 shifts (R170). -/
def crcByte (c : Half) (b : Byte) : Half :=
  crcShift (crcShift (crcShift (crcShift (crcShift (crcShift (crcShift (crcShift (c ^^^ b.setWidth 16))))))))

/-- `crc16(bs)`: initial value 0, first byte first, no final inversion (R170). -/
def crc16 (bs : List Byte) : Half := bs.foldl crcByte 0#16

/-- `bs ++ [lo(c), hi(c)]` with `c = crc16(bs)` (R174). -/
def crcAppended (bs : List Byte) : List Byte := bs ++ halfBytes (crc16 bs)

/-- CRC_VERIFY's verdict: at least 2 bytes and residue 0 (R176). -/
def crcValid (bs : List Byte) : Bool := decide (2 ≤ bs.length) && crc16 bs == 0#16

/-- A unit operation that reads no state: refused unless `Live` or `Draining` (R211), else it answers. -/
def State.unitOp (s : State) (answer : State → State) : Host.Outcome State Fault Refusal :=
  if s.running then .next (answer s) else .next (s.refuse .deviceGone)

/-- CRC_COMPUTE (R172): the value, low byte first. -/
def execCrcCompute (bytes : List Byte) (s : State) : Host.Outcome State Fault Refusal :=
  s.unitOp (fun s => s.respond (halfBytes (crc16 bytes)))

/-- CRC_APPEND (R174): the length and the bytes with the checksum; `FrameTooLong` above 125 bytes. -/
def execCrcAppend (bytes : List Byte) (s : State) : Host.Outcome State Fault Refusal :=
  s.unitOp (fun s =>
    if maxFrame - fcsLen < bytes.length then s.refuse .frameTooLong
    else s.respond (BitVec.ofNat 8 (bytes.length + fcsLen) :: crcAppended bytes))

/-- CRC_VERIFY (R176): `Ok` or `BadChecksum`. -/
def execCrcVerify (bytes : List Byte) (s : State) : Host.Outcome State Fault Refusal :=
  s.unitOp (fun s => if crcValid bytes then s.respond [] else s.refuse .badChecksum)

end Sys2Proof.Machine
end

