-- ==== Sys2Proof/Machine/Codec.lean ====
section
/-! DEFINITION. The FrameCodec: DECODE_HDR (R130 to R142), ENCODE_HDR (R145 to R155) and BUILD_ACK (R160), over any
frame control layout, and their commands over the spec's layout. -/

namespace Sys2Proof.Machine

/-! ## DECODE_HDR -/

/-- A header, or an error with the cursor's position when it was raised (R41, R140). -/
abbrev HdrResult := Except (HdrError × Nat) Md

/-- An address field of mode 2 or 3 at the cursor, with the PAN id already known; the long form is reversed to host
storage order (R138, R139). -/
def readAddress (buf : List Byte) (len cur : Nat) (mode : BitVec 2) (pan : Half) :
    Except (HdrError × Nat) (Address × Nat) :=
  if mode = 2#2 then
    match readHalf buf len cur with
    | some a => .ok (.short pan a, cur + 2)
    | none => .error (.truncated, cur)
  else
    match readLong buf len cur with
    | some a => .ok (.long pan a.rev8, cur + 8)
    | none => .error (.truncated, cur)

/-- A PAN id and an address field at the cursor. -/
def readPanAddress (buf : List Byte) (len cur : Nat) (mode : BitVec 2) : Except (HdrError × Nat) (Address × Nat) :=
  match readHalf buf len cur with
  | some pan => readAddress buf len (cur + 2) mode pan
  | none => .error (.truncated, cur)

/-- The destination (R138). -/
def readDst (L : FcLayout) (buf : List Byte) (len cur : Nat) (fc : Half) : Except (HdrError × Nat) (Address × Nat) :=
  if fcDam L fc = 0#2 then .ok (.none, cur) else readPanAddress buf len cur (fcDam L fc)

/-- The source; with `intrapan` its PAN id is the destination's and is not read (R139). -/
def readSrc (L : FcLayout) (buf : List Byte) (len cur : Nat) (fc : Half) (dst : Address) :
    Except (HdrError × Nat) (Address × Nat) :=
  if fcSam L fc = 0#2 then .ok (.none, cur)
  else
    match fcIntrapan L fc, dst.pan? with
    | true, some pan => readAddress buf len cur (fcSam L fc) pan
    | true, none => .error (.badAddrCombo, cur)
    | false, _ => readPanAddress buf len cur (fcSam L fc)

/-- DECODE_HDR (R130): the checks in the order of R141, then the fields left to right. -/
def decodeHdr (L : FcLayout) (buf : List Byte) (len : Nat) : HdrResult :=
  if len < hdrMin then .error (.tooShort, 0)
  else
    let fc := le16 (byteAt buf 0) (byteAt buf 1)
    match fcFault L fc with
    | some e => .error (e, 3)
    | none =>
      match readDst L buf len 3 fc with
      | .error e => .error e
      | .ok (dst, cur) =>
        match readSrc L buf len cur fc dst with
        | .error e => .error e
        | .ok (src, cur) => .ok (Md.ofHeader L fc (byteAt buf 2) dst src cur)

/-- The header cursor after the decode (R41). -/
def HdrResult.cursor (r : HdrResult) : Nat :=
  match r with
  | .ok md => md.hdrLen
  | .error (_, cur) => cur

/-- The result bytes of a DECODE_HDR command (R111). -/
def Md.resultBytes (md : Md) : List Byte :=
  halfBytes md.fc ++ [md.seq, BitVec.ofNat 8 md.hdrLen] ++ addressOp md.dst ++ addressOp md.src

/-- DECODE_HDR as a command (R130, R111). -/
def execDecodeHdr (bytes : List Byte) (s : State) : Host.Outcome State Fault Refusal :=
  s.unitOp (fun s =>
    match decodeHdr fcLayout bytes bytes.length with
    | .ok md => s.respond md.resultBytes
    | .error (e, _) => s.refuse (Status.ofHdr e))

/-! ## ENCODE_HDR -/

/-- The source address synthesized from an interface (R148): long when the short address or the PAN id is a sentinel. -/
def Snap.source (v : Snap) : Address :=
  if v.short = shortBroadcast ∨ v.short = shortUndef ∨ v.pan = panBroadcast then .long v.pan v.hwAddr
  else .short v.pan v.short

/-- The source given, or the synthesized one; an explicit `None` is a source given (R148, R153). -/
def sourceOf (src : Option Address) (v : Snap) : Address :=
  match src with
  | some a => a
  | none => v.source

/-- The PAN id field of an address. -/
def panBytes (a : Address) : List Byte :=
  match a.pan? with
  | some p => halfBytes p
  | none => []

/-- The address field: short low byte first, long reversed (R145 `addrbytes`). -/
def addrBytes : Address → List Byte
  | .none => []
  | .short _ a => halfBytes a
  | .long _ a => a.rev8.bytes

/-- `alen`, the length of the address field (R97). -/
def Mode.alen : Mode → Nat
  | .none => 0
  | .short => 2
  | .long => 8

/-- The header length of R100. -/
def headerLen (dst src : Mode) (ip : Bool) : Nat :=
  3 + (if dst = .none then 0 else 2 + Mode.alen dst) +
    (if src = .none then 0 else (if ip then 0 else 2) + Mode.alen src)

/-- The header bytes in wire order (R150, R151). -/
def headerBytes (L : FcLayout) (type : BitVec 3) (ackreq : Bool) (dst src : Address) (seq : Byte) : List Byte :=
  halfBytes (fcWord L type ackreq (compress dst src) dst.mode src.mode) ++ [seq] ++ panBytes dst ++ addrBytes dst ++
    (if compress dst src then [] else panBytes src) ++ addrBytes src

/-- ENCODE_HDR (R145): a refusal of R146 and R147, or the header. -/
def encodeHdr (L : FcLayout) (type : Byte) (sec ackreq : Bool) (dst : Address) (src : Option Address) (seq : Byte)
    (v : Snap) : Except Status (List Byte) :=
  match frameRefusal type sec dst with
  | some e => .error e
  | none => .ok (headerBytes L (type.setWidth 3) ackreq dst (sourceOf src v) seq)

/-- The fields TX_FRAME and ENCODE_HDR read in one atomic step (R303). -/
def Iface.snap (i : Iface) : Snap := ⟨i.pan, i.short, i.hwAddr, i.channel⟩

/-- ENCODE_HDR as a command: life gate, handle, then the operation's own tests (R211, R33; DEDUCED, log 16). -/
def execEncodeHdr (h : Handle) (type : Byte) (sec ackreq : Bool) (seq : Byte) (dst : Address) (src : Option Address)
    (s : State) : Host.Outcome State Fault Refusal :=
  if s.life = .live then
    match s.ifaceOf h with
    | none => .next (s.refuse .badHandle)
    | some i =>
      match encodeHdr fcLayout type sec ackreq dst src seq i.snap with
      | .error e => .next (s.refuse e)
      | .ok hdr => .next (s.respond (BitVec.ofNat 8 hdr.length :: hdr))
  else .next (s.refuse .deviceGone)

/-! ## BUILD_ACK -/

/-- The acknowledgement header `02 00 seq` (R160). -/
def ackHeader (seq : Byte) : List Byte := [0x02#8, 0x00#8, seq]

/-- BUILD_ACK as a command (R160). -/
def execBuildAck (seq : Byte) (s : State) : Host.Outcome State Fault Refusal :=
  s.unitOp (fun s => s.respond (ackHeader seq))

end Sys2Proof.Machine
end

