-- ==== Sys2Proof/Machine/Classify.lean ====
section
/-! DEFINITION. The AddressMatcher: the delivery-scope classifier and CLASSIFY (R190 to R195). -/

namespace Sys2Proof.Machine

/-- The PAN-id gate (R194). -/
def panGate (p : Half) (i : Iface) : Bool := p == i.pan || p == panBroadcast

/-- CLASSIFY (R190): the destination against one interface's addresses; `Host` is tested before `Broadcast` (R195). -/
def scopeOf (dst : Address) (srcMode : Mode) (i : Iface) : Scope :=
  match dst with
  | .none => if srcMode = .none then .host else .otherHost
  | .long p a =>
    if panGate p i then
      if a = i.hwAddr then .host else if a = i.bcastAddr then .broadcast else .otherHost
    else .otherHost
  | .short p a =>
    if panGate p i then
      if a = i.short then .host else if a = shortBroadcast then .broadcast else .otherHost
    else .otherHost

/-- CLASSIFY as a command (R190, R211). -/
def execClassify (h : Handle) (dst : Address) (srcMode : Mode) (s : State) : Host.Outcome State Fault Refusal :=
  if s.life = .live then
    match s.ifaceOf h with
    | none => .next (s.refuse .badHandle)
    | some i => .next (s.respond [(scopeOf dst srcMode i).code])
  else .next (s.refuse .deviceGone)

end Sys2Proof.Machine
end

