-- ==== Sys2Proof/Machine/Registry.lean ====
section
/-! DEFINITION. The InterfaceRegistry and the configuration accesses: IF_ADD (R212), IF_REMOVE (R220 to R222),
DEV_UNREGISTER (R225, R226), DEV_FREE (R228), CFG_READ (R232), CFG_WRITE (R234, R235), and the HOST agent's waits. -/

namespace Sys2Proof.Machine

/-! ## IF_ADD -/

/-- The type tag of IF_ADD's operand: 0 `Ordinary`, 1 `Monitor` (R113). -/
def ifTypeOf (b : Byte) : IfType := if b = 0#8 then .ordinary else .monitor

/-- The fields of a new interface (R212, R30). -/
def Iface.created (cfg : Config) (type : IfType) (hw : LongAddr) (dsn bsn : Byte) : Iface where
  type := type
  pan := panBroadcast
  short := shortBroadcast
  channel := cfg.chanNone
  hwAddr := hw
  bcastAddr := bcastAddrAll
  dsn := dsn
  bsn := bsn
  coord := false

/-- The generation of a slot. -/
def State.genOf (s : State) (n : Nat) : Byte :=
  match s.slots[n]? with
  | some sl => sl.gen
  | none => 0#8

/-- The creation step of IF_ADD on slot `n`: both counters are drawn, `gen` is left as it is (R212). -/
def State.create (s : State) (n : Nat) (type : IfType) (hw : LongAddr) : State :=
  (s.drawSeq.2.drawSeq.2).setSlot n
    ⟨s.genOf n, .bound (Iface.created s.cfg type hw s.drawSeq.1 s.drawSeq.2.drawSeq.1)⟩

/-- IF_ADD (R212). -/
def execIfAdd (type : Byte) (hw : LongAddr) (s : State) : Host.Outcome State Fault Refusal :=
  if 1 < type.toNat then .next (s.refuse .badOperand)
  else if s.life = .live then
    match s.freeSlot with
    | none => .next (s.refuse .tableFull)
    | some n => .next ((s.create n (ifTypeOf type) hw).respond [BitVec.ofNat 8 n, s.genOf n])
  else .next (s.refuse .deviceGone)

/-! ## The HOST agent's waits -/

/-- One atomic step of the HOST agent in a command that waits (R220, R225, R228). `j` picks the slot DEV_UNREGISTER
removes next. A wait that is not over changes nothing. -/
def hostMicro (j : Nat) (s : State) : State :=
  match s.host with
  | .idle => s
  | .removing k n => if s.holds n then s else ((s.vacate n).setHost .idle).answer k [0#8]
  | .unregistering k =>
    match toFront s.boundSlots j with
    | [] => s.setHost (.draining k)
    | n :: _ => (s.unlink n).setHost (.unlinking k n)
  | .unlinking k n => if s.holds n then s else (s.vacate n).setHost (.unregistering k)
  | .draining k => if s.wq = [] ∧ s.wqBusy = false then s.setHost (.settling k) else s
  | .settling k => if s.trav = [] then s.setHost (.releasing k) else s
  | .releasing k => (({ s with life := .released } : State).setHost .idle).answer k [0#8]

/-- The HOST agent takes up to `n` atomic steps. -/
def advanceHost : Nat → State → State
  | 0, s => s
  | n + 1, s => advanceHost n (hostMicro 0 s)

/-! ## IF_REMOVE, DEV_UNREGISTER, DEV_FREE -/

/-- IF_REMOVE (R220): unlink, then wait out the grace period. As a command it needs `Live` (R211). -/
def execIfRemove (h : Handle) (s : State) : Host.Outcome State Fault Refusal :=
  if s.life = .live then
    if s.handleOk h then
      .next (advanceHost s.burst ((s.unlink h.slot.toNat).setHost (.removing s.ticket h.slot.toNat)))
    else .next (s.refuse .badHandle)
  else .next (s.refuse .deviceGone)

/-- DEV_UNREGISTER (R225): drains, removing every interface first. -/
def execDevUnregister (s : State) : Host.Outcome State Fault Refusal :=
  if s.life = .live then
    .next (advanceHost s.burst (({ s with life := .draining } : State).setHost (.unregistering s.ticket)))
  else .next (s.refuse .deviceGone)

/-- DEV_FREE (R228): fatal while an interface is bound (R229, R350). -/
def execDevFree (s : State) : Host.Outcome State Fault Refusal :=
  if s.life = .live then
    if s.boundSlots = [] then
      .next (advanceHost s.burst (({ s with life := .draining } : State).setHost (.draining s.ticket)))
    else
      .next ((({ s with life := .fatal, fatalCause := .nonEmptyFree } : State).event .fatalNonEmptyFree
        s.boundSlots.length).refuse .fatalNonEmptyFree)
  else .next (s.refuse .deviceGone)

/-! ## CFG_READ and CFG_WRITE -/

/-- CFG_READ (R232). A device register ignores the handle and is read in every life state (R46, R211). -/
def execCfgRead (h : Handle) (reg : Byte) (s : State) : Host.Outcome State Fault Refusal :=
  match regOfByte reg with
  | none => .next (s.refuse .badRegister)
  | some r =>
    match s.devReg r with
    | some v => .next (s.respond (valueBytes v))
    | none =>
      if s.running then
        match s.ifaceOf h with
        | none => .next (s.refuse .badHandle)
        | some i =>
          match i.reg h.gen r with
          | some v => .next (s.respond (valueBytes v))
          | none => .next (s.refuse .badRegister)
      else .next (s.refuse .deviceGone)

/-- A write of this register needs a filter update (R234). -/
def State.needsFilter (s : State) (r : Reg) : Bool := s.cfg.addrFilter && r.filtered

/-- A `FilterUpdate(h)` waits in the queue (R235). -/
def State.filterQueued (s : State) (h : Handle) : Bool := s.wq.contains (.filterUpdate h)

/-- The writing step of CFG_WRITE: the field, and at most one `FilterUpdate(h)` in the queue (R234, R235). -/
def State.writeReg (s : State) (h : Handle) (i : Iface) (r : Reg) (v : Value) : State :=
  if s.needsFilter r && !s.filterQueued h then (s.setIface h (i.write r v)).pushWork (.filterUpdate h)
  else s.setIface h (i.write r v)

/-- CFG_WRITE (R234). -/
def execCfgWrite (h : Handle) (reg : Byte) (v : Value) (s : State) : Host.Outcome State Fault Refusal :=
  match regOfByte reg with
  | none => .next (s.refuse .badRegister)
  | some r =>
    if r.writable then
      if s.life = .live then
        match s.ifaceOf h with
        | none => .next (s.refuse .badHandle)
        | some i =>
          if s.needsFilter r && !s.filterQueued h && s.wqFull then .next (s.refuse .queueFull)
          else .next ((s.writeReg h i r v).respond [])
      else .next (s.refuse .deviceGone)
    else .next (s.refuse .readOnly)

end Sys2Proof.Machine
end

