-- ==== Sys2Proof/Machine/Receive.lean ====
section
/-! DEFINITION. The ReceiveDispatcher: RX_FRAME (R250 to R283) as the RX agent's atomic steps, and the five frame-type
patterns of its dispatch (R275 to R279). -/

namespace Sys2Proof.Machine

/-! ## Fan-out -/

/-- The match predicate of fan-out (R261). -/
def State.matchesSlot (s : State) (n : Nat) : Bool :=
  match s.slots[n]? with
  | some sl =>
    match sl.occ with
    | .bound i => s.cfg.matchMonitor || i.type == .ordinary
    | .free => false
    | .unlinked _ => false
  | none => false

/-- The handles of the slots taken: every one but the last works on a clone still to be made, the last gets the original
itself (R264, R265). Until it is made, a clone's handle keeps what the clone is made from: the received bytes and the
header fields, which nothing writes. -/
def handlesOf (original : Copy) : List Nat → List HandleCtx
  | [] => []
  | [n] => [⟨n, true, original, .classify⟩]
  | n :: rest => ⟨n, false, original, .clone⟩ :: handlesOf original rest

/-- A clone: a new buffer with the same `len` bytes and a `MD` of its own (R264, R266). -/
def Copy.cloned (c : Copy) : Copy := ⟨c.bytes.take c.len, c.len, { c.md with scope := none }⟩

/-- The payload of a copy (R9). -/
def Copy.payload (c : Copy) : List Byte := (c.bytes.take c.len).drop c.md.hdrLen

/-! ## Acknowledgement synthesis -/

/-- The synthesized acknowledgement, with its checksum unless the radio omits it (R273). -/
def ackFrame (cfg : Config) (seq : Byte) : List Byte :=
  if cfg.omitsChecksum then ackHeader seq else crcAppended (ackHeader seq)

/-- The queueing step of SYNTH_ACK for the channel read (R273). -/
def State.queueAck (s : State) (channel seq : Byte) : State :=
  if channel = s.cfg.chanNone then s.event .ackNotSent seq.toNat
  else if s.wqFull then s.event .ackNotSent seq.toNat
  else s.pushWork (.xmit ⟨ackFrame s.cfg seq, channel, .ackSynth⟩)

/-! ## Dispatch by frame type (R275)

Each gives the stage the handle goes on with, and the state with the transaction issued. -/

/-- FRAME.BEACON: `BPARSE.parse` is called (R276). -/
def dispatchBeacon (h : HandleCtx) (s : State) : Stage × State := (.parsing, s.emit (.parse h.copy))

/-- FRAME.DATA: `NETQ.enqueue` with the interface and the copy (R279). -/
def dispatchData (h : HandleCtx) (s : State) : Stage × State :=
  (.finish (.delivered none), s.emit (.enqueue h.slot h.copy))

/-- FRAME.ACK: consumed, no further action (R277). -/
def dispatchAck (_ : HandleCtx) (s : State) : Stage × State := (.finish .consumed, s)

/-- FRAME.MACCMD: `CMDH.handle` is called (R278). -/
def dispatchMaccmd (h : HandleCtx) (s : State) : Stage × State := (.commanding, s.emit (.handle h.slot h.copy))

/-- FRAME.UNRECOGNIZED: one event with the type, the copy is dropped (R279). -/
def dispatchUnrecognized (type : Nat) (_ : HandleCtx) (s : State) : Stage × State :=
  (.finish .unsupportedFrameType, s.event .unsupportedFrameType type)

/-- DISPATCH by the type of the copy (R275). -/
def dispatchOn (type : BitVec 3) : HandleCtx → State → Stage × State :=
  if type = 0#3 then dispatchBeacon
  else if type = 1#3 then dispatchData
  else if type = 2#3 then dispatchAck
  else if type = 3#3 then dispatchMaccmd
  else dispatchUnrecognized type.toNat

/-! ## The RX agent's atomic steps -/

/-- A frame starts in `ChecksumCheck` with a fresh context (R250, R282). -/
def State.startRx (s : State) (source : FrameSource) (bytes : List Byte) : State :=
  s.setRx (some ⟨source, bytes, bytes.length, 0, .checksumCheck, []⟩)

/-- Move the receive state machine (R42). -/
def State.rxTo (s : State) (c : RxCtx) (st : RxState) : State := s.setRx (some { c with st := st })

/-- Stage 1 (R252 to R254). -/
def rxChecksum (c : RxCtx) (s : State) : State :=
  if s.cfg.omitsChecksum then s.rxTo c .decode
  else if crcValid (c.buf.take c.len) then s.setRx (some { c with len := c.len - fcsLen, st := .decode })
  else ({ s with cntBadcsum := nextCount s.cfg s.cntBadcsum } : State).rxTo c (.dropped .badChecksum)

/-- The count or the event of a decode failure (R256). -/
def State.noteMalformed (s : State) (e : HdrError) : State :=
  if e = .unsupportedFeature then s.event .securityFrameDropped 0
  else { s with cntMalformed := nextCount s.cfg s.cntMalformed }

/-- Stage 2 (R255, R256). -/
def rxDecode (c : RxCtx) (s : State) : State :=
  match decodeHdr fcLayout c.buf c.len with
  | .ok md => s.setRx (some { c with cur := md.hdrLen, st := .fanout md (List.range s.slots.length) [] })
  | .error (e, cur) => (s.noteMalformed e).setRx (some { c with cur := cur, st := .dropped (.malformed e) })

/-- Stage 3 (R262, R263): visit the next slot, or end the traversal; no copy has an outcome yet. -/
def rxFanout (c : RxCtx) (md : Md) (todo taken : List Nat) (s : State) : State :=
  match todo with
  | n :: rest => s.rxTo c (.fanout md rest (if s.matchesSlot n then taken ++ [n] else taken))
  | [] =>
    match taken with
    | [] => s.rxTo c (.dropped .noInterface)
    | _ :: _ => s.setRx (some { c with st := .handling (handlesOf ⟨c.buf, c.len, md⟩ taken), outcomes := [] })

/-- The head handle goes on with `h`. -/
def State.putHandle (s : State) (c : RxCtx) (h : HandleCtx) (rest : List HandleCtx) : State :=
  s.rxTo c (.handling (h :: rest))

/-- The head handle has ended with an outcome: its slot leaves the traversal (R280). -/
def State.dropHandle (s : State) (c : RxCtx) (slot : Nat) (o : CopyOutcome) (rest : List HandleCtx) : State :=
  s.setRx (some { c with st := .handling rest, outcomes := c.outcomes ++ [(slot, o)] })

/-- The classification step of a handle: the interface's fields are read in one step and the scope is written to this
copy's `MD` (R270, R271), which for the original's is `RXC.MD`. A slot that holds no value stops the model (R31, log 10). -/
def rxClassify (c : RxCtx) (h : HandleCtx) (rest : List HandleCtx) (s : State) : Host.Outcome State Fault Refusal :=
  match (s.slots[h.slot]?).bind Slot.fields with
  | none => .fault .freeSlotRead
  | some i =>
    let md := { h.copy.md with scope := some (scopeOf h.copy.md.dst h.copy.md.src.mode i) }
    .next (s.putHandle c { h with copy := { h.copy with md := md }, stage := .ackCheck } rest)

/-- ACKCHECK (R272): the event, and synthesis under `SynthesizeAck`. -/
def rxAckCheck (c : RxCtx) (h : HandleCtx) (rest : List HandleCtx) (s : State) : State :=
  if ackDue s.cfg h.copy.md then
    (s.event .ackWithoutHwAck h.copy.md.seq.toNat).putHandle c
      { h with stage := if s.cfg.ackPolicy = .synthesizeAck then .synthRead else .dispatch } rest
  else s.putHandle c { h with stage := .dispatch } rest

/-- The parser's answer: its address goes to the beacon cache, an error records nothing (R276). -/
def State.recordParsed (s : State) (r : Option Parsed) : State :=
  match r with
  | some p => s.emit (.record p.addr)
  | none => s

/-- One atomic step of the head handle (R264, R270 to R280). -/
def rxHandle (c : RxCtx) (h : HandleCtx) (rest : List HandleCtx) (s : State) : Host.Outcome State Fault Refusal :=
  match h.stage with
  | .clone =>
    if s.drawClone.1 then .next (s.drawClone.2.putHandle c { h with copy := h.copy.cloned, stage := .classify } rest)
    else .next (s.drawClone.2.dropHandle c h.slot .cloneFailed rest)
  | .classify => rxClassify c h rest s
  | .ackCheck => .next (rxAckCheck c h rest s)
  | .synthRead => .next (s.putHandle c { h with stage := .synthQueue s.curChannel } rest)
  | .synthQueue ch => .next ((s.queueAck ch h.copy.md.seq).putHandle c { h with stage := .dispatch } rest)
  | .dispatch =>
    .next ((dispatchOn h.copy.md.type h s).2.putHandle c { h with stage := (dispatchOn h.copy.md.type h s).1 } rest)
  | .parsing =>
    .next ((s.nextParse.2.recordParsed s.nextParse.1).putHandle c { h with stage := .finish (.delivered none) } rest)
  | .commanding =>
    .next (s.nextHandled.2.putHandle c { h with stage := .finish (.delivered (some s.nextHandled.1)) } rest)
  | .finish o => .next (s.dropHandle c h.slot o rest)

/-- The frame is over: its context is freed, and an injected frame answers its terminal state (R113, R280). -/
def rxEnd (c : RxCtx) (code : Byte) (s : State) : State :=
  match c.source with
  | .radio => s.setRx none
  | .command k => (s.setRx none).answer k [0#8, code]

/-- One atomic step of the RX agent (R250). -/
def rxMicro (s : State) : Host.Outcome State Fault Refusal :=
  match s.rx with
  | none => .next s
  | some c =>
    match c.st with
    | .checksumCheck => .next (rxChecksum c s)
    | .decode => .next (rxDecode c s)
    | .fanout md todo taken => .next (rxFanout c md todo taken s)
    | .handling [] => .next (s.rxTo c .done)
    | .handling (h :: rest) => rxHandle c h rest s
    | .dropped r => .next (rxEnd c r.code s)
    | .done => .next (rxEnd c 0#8 s)

/-- The RX agent takes up to `n` atomic steps; it waits for nobody. -/
def advanceRx : Nat → State → Host.Outcome State Fault Refusal
  | 0, s => .next s
  | n + 1, s =>
    match s.rx with
    | none => .next s
    | some _ => andThen (rxMicro s) (advanceRx n)

/-- The RX agent's next step concerns choice `j`: the slot to visit next, the slot that gets the original, or the handle
to run next (R262, R265, R266). -/
def RxState.focus (st : RxState) (j : Nat) : RxState :=
  match st with
  | .fanout md [] taken => .fanout md [] (toBack taken j)
  | .fanout md (n :: rest) taken => .fanout md (toFront (n :: rest) j) taken
  | .handling hs => .handling (toFront hs j)
  | .checksumCheck => .checksumCheck
  | .decode => .decode
  | .dropped r => .dropped r
  | .done => .done

/-- `RxState.focus` on the frame in progress. -/
def State.focusRx (s : State) (j : Nat) : State :=
  match s.rx with
  | some c => s.rxTo c (c.st.focus j)
  | none => s

/-! ## RX_FRAME -/

/-- RX_FRAME as a command: handled exactly as a frame from the radio, and it answers the terminal state (R111, R113);
refused after release and in `Fatal` (R227, R229). -/
def execRxFrame (bytes : List Byte) (s : State) : Host.Outcome State Fault Refusal :=
  if s.running then advanceRx s.burst (s.startRx (.command s.ticket) bytes) else .next (s.refuse .deviceGone)

/-- A frame from the radio; after release and in `Fatal` it is discarded with no effect (R251). -/
def receiveFrame (bytes : List Byte) (s : State) : Host.Outcome State Fault Refusal :=
  if s.running then advanceRx s.burst (s.startRx .radio bytes) else .next s

/-! ## The frame-type patterns -/

/-- The handle that has reached its dispatch and whose turn it is, with the frame's context and the other handles. -/
def State.atDispatch (s : State) : Option (RxCtx × HandleCtx × List HandleCtx) :=
  match s.rx with
  | some c =>
    match c.st with
    | .handling (h :: rest) => if h.stage = .dispatch then some (c, h, rest) else none
    | .handling [] => none
    | .checksumCheck => none
    | .decode => none
    | .fanout _ _ _ => none
    | .dropped _ => none
    | .done => none
  | none => none

/-- Dispatch the copy whose turn it is by one frame-type pattern, and let the RX agent go on; without such a copy there
is nothing to dispatch (log 19). -/
def State.dispatchBy (s : State) (d : HandleCtx → State → Stage × State) : Host.Outcome State Fault Refusal :=
  match s.atDispatch with
  | some (c, h, rest) => advanceRx s.burst ((d h s).2.putHandle c { h with stage := (d h s).1 } rest)
  | none => .next s

/-- FRAME.BEACON (R276). -/
def execFrameBeacon (_ : FrameCtl) (s : State) : Host.Outcome State Fault Refusal := s.dispatchBy dispatchBeacon

/-- FRAME.DATA (R279). -/
def execFrameData (_ : FrameCtl) (s : State) : Host.Outcome State Fault Refusal := s.dispatchBy dispatchData

/-- FRAME.ACK (R277). -/
def execFrameAck (_ : FrameCtl) (s : State) : Host.Outcome State Fault Refusal := s.dispatchBy dispatchAck

/-- FRAME.MACCMD (R278). -/
def execFrameMaccmd (_ : FrameCtl) (s : State) : Host.Outcome State Fault Refusal := s.dispatchBy dispatchMaccmd

/-- FRAME.UNRECOGNIZED (R279): the event's info is the type, 4 to 7. -/
def execFrameUnrecognized (tt : BitVec 2) (_ : FrameCtl) (s : State) : Host.Outcome State Fault Refusal :=
  s.dispatchBy (dispatchUnrecognized (1#1 ++ tt).toNat)

end Sys2Proof.Machine
end

