-- ==== Sys2Proof/Machine/Transmit.lean ====
section
/-! DEFINITION. The TransmitPath: TX_FRAME (R300 to R311) as a TX agent's atomic steps, and the WORK agent's execution of
the `Xmit` and `FilterUpdate` items (R314 to R320). -/

namespace Sys2Proof.Machine

/-! ## TX_FRAME -/

/-- The length TX_FRAME tests against `MAX_FRAME` (R300 step 3, R307). -/
def txLength (cfg : Config) (dst src : Address) (payload : List Byte) : Nat :=
  headerLen dst.mode src.mode (compress dst src) + payload.length + (if cfg.omitsChecksum then 0 else fcsLen)

/-- The call in progress with ticket `k`. -/
def State.txCall (s : State) (k : Nat) : Option TxCtx := s.tx.find? (fun c => c.k == k)

/-- The call `k` is over: its context is discarded. -/
def State.endTx (s : State) (k : Nat) : State := s.setTx (s.tx.filter (fun c => c.k != k))

/-- The call `k` goes on with another stage. -/
def State.txTo (s : State) (k : Nat) (st : TxStage) : State :=
  s.setTx (s.tx.map (fun c => if c.k = k then { c with stage := st } else c))

/-- The call `k` has built its frame. -/
def State.txBuilt (s : State) (k : Nat) (t : TxBuf) : State :=
  s.setTx (s.tx.map (fun c => if c.k = k then { c with txc := t, stage := .built } else c))

/-- The interface fields after a fetch-and-increment: `bsn` for a beacon, `dsn` otherwise (R304). -/
def Iface.bumped (i : Iface) (type : BitVec 3) : Iface :=
  if type = 0#3 then { i with bsn := i.bsn + 1#8 } else { i with dsn := i.dsn + 1#8 }

/-- The sequence number a fetch-and-increment yields: the value before the increment (R304). -/
def Iface.seqFor (i : Iface) (type : BitVec 3) : Byte := if type = 0#3 then i.bsn else i.dsn

/-- Step 4 (R304): the handle is checked again; a stale one consumes nothing. -/
def txNumber (c : TxCtx) (s : State) : State :=
  match s.ifaceOf c.h with
  | none => (s.endTx c.k).answer c.k (Status.bytes .badHandle)
  | some i => (s.setIface c.h (i.bumped c.type)).txTo c.k (.numbered (i.seqFor c.type))

/-- Step 5 (R306): the payload at offset 23, the header directly before it (R44, R152). -/
def TxBuf.build (hdr payload : List Byte) : TxBuf where
  buf := memWrite (memWrite TxBuf.fresh.buf hdrMax payload) (hdrMax - hdr.length) hdr
  start := hdrMax - hdr.length
  stop := hdrMax + payload.length

/-- Step 6 (R308): the checksum after the payload. -/
def TxBuf.withChecksum (t : TxBuf) : TxBuf :=
  { t with buf := memWrite t.buf t.stop (halfBytes (crc16 t.frame)), stop := t.stop + fcsLen }

/-- The header of a call (R306). -/
def TxCtx.header (c : TxCtx) (seq : Byte) : List Byte := headerBytes fcLayout c.type c.ackreq c.dst c.src seq

/-- Steps 5 and 6. -/
def TxCtx.assemble (c : TxCtx) (cfg : Config) (seq : Byte) : TxBuf :=
  if cfg.omitsChecksum then TxBuf.build (c.header seq) c.payload
  else (TxBuf.build (c.header seq) c.payload).withChecksum

/-- Step 7 (R310): the finished frame goes into the work queue; a full queue is `DeviceBusy`. -/
def txHandOver (c : TxCtx) (s : State) : State :=
  if s.life = .live then
    if s.wqFull then (s.endTx c.k).answer c.k (Status.bytes .deviceBusy)
    else (s.pushWork (.xmit ⟨c.txc.frame, c.snap.channel, .txCall c.k⟩)).txTo c.k .waiting
  else (s.endTx c.k).answer c.k (Status.bytes .deviceGone)

/-- Step 8 (R311): the item's result is answered. -/
def txComplete (c : TxCtx) (r : XmitResult) (s : State) : State :=
  (s.endTx c.k).answer c.k (Status.result (Status.ofXmit r))

/-- One atomic step of the TX agent `k`; it waits while its item has not been executed. -/
def txMicro (k : Nat) (s : State) : State :=
  match s.txCall k with
  | none => s
  | some c =>
    match c.stage with
    | .snapped => txNumber c s
    | .numbered seq => s.txBuilt k (c.assemble s.cfg seq)
    | .built => txHandOver c s
    | .waiting => s
    | .completed r => txComplete c r s

/-- The TX agent `k` takes up to `n` atomic steps. -/
def advanceTx (k : Nat) : Nat → State → State
  | 0, s => s
  | n + 1, s => advanceTx k n (txMicro k s)

/-- The context of a call after step 3. -/
def TxCtx.opened (k : Nat) (h : Handle) (type : Byte) (ackreq : Bool) (dst : Address) (src : Option Address)
    (payload : List Byte) (v : Snap) : TxCtx where
  k := k
  h := h
  type := type.setWidth 3
  ackreq := ackreq
  dst := dst
  src := sourceOf src v
  payload := payload
  snap := v
  txc := TxBuf.fresh
  stage := .snapped

/-- TX_FRAME (R300): steps 1 to 3 refuse or open the call; the TX agent then goes on. -/
def execTxFrame (h : Handle) (type : Byte) (sec ackreq : Bool) (dst : Address) (src : Option Address)
    (payload : List Byte) (s : State) : Host.Outcome State Fault Refusal :=
  match frameRefusal type sec dst with
  | some e => .next (s.refuse e)
  | none =>
    if s.life = .live then
      match s.ifaceOf h with
      | none => .next (s.refuse .badHandle)
      | some i =>
        if i.channel = s.cfg.chanNone then .next (s.refuse .channelUnset)
        else if maxFrame < txLength s.cfg dst (sourceOf src i.snap) payload then .next (s.refuse .frameTooLong)
        else
          .next (advanceTx s.ticket s.burst
            (s.setTx (s.tx ++ [TxCtx.opened s.ticket h type ackreq dst src payload i.snap])))
    else .next (s.refuse .deviceGone)

/-! ## The WORK agent -/

/-- Take item `j` of the queue (R314): any item may be taken. -/
def State.takeWork (s : State) (j : Nat) : State :=
  match s.wq[j]? with
  | some w => ({ s with wq := s.wq.eraseIdx j } : State).setWork (.start w)
  | none => s

/-- The first step of an item (R315, R320): an `Xmit` compares the device's channel, a `FilterUpdate` reads the
interface or does nothing for a stale handle (R223). -/
def workStart (w : WorkItem) (s : State) : State :=
  match w with
  | .xmit x => if s.curChannel = x.channel then s.setWork (.send x) else s.setWork (.tune x)
  | .filterUpdate h =>
    match s.ifaceOf h with
    | some i => s.setWork (.filterSend ⟨i.pan, i.short, i.hwAddr⟩)
    | none => s.setWork .finishing

/-- The report of an `Xmit` (R318): to its TX_FRAME, or an event when an acknowledgement was not sent. -/
def workReport (x : Xmit) (r : XmitResult) (s : State) : State :=
  match x.origin with
  | .txCall k => s.txTo k (.completed r)
  | .ackSynth => if r = .ok then s else s.event .ackNotSent (byteAt x.frame 2).toNat

/-- One atomic step or transaction of the WORK agent (R314 to R320). -/
def workMicro (j : Nat) (s : State) : State :=
  match s.work with
  | .idle => if s.running then s.takeWork j else s
  | .start w => workStart w s
  | .tune x => (s.emit (.setChannel x.channel)).setWork (.tuning x)
  | .tuning x =>
    match s.nextSetChannel.1 with
    | .ok => s.nextSetChannel.2.setWork (.tuned x)
    | .fail => s.nextSetChannel.2.setWork (.report x .reconfigurationFailure)
  | .tuned x => ({ s with curChannel := x.channel } : State).setWork (.send x)
  | .send x => (s.emit (.transmit x.frame x.channel)).setWork (.sending x)
  | .sending x =>
    match s.nextTransmit.1 with
    | .ok => s.nextTransmit.2.setWork (.report x .ok)
    | .busy => s.nextTransmit.2.setWork (.report x .deviceBusy)
  | .report x r => (workReport x r s).setWork .finishing
  | .filterSend v => (s.emit (.filterUpdate v.pan v.short v.long)).setWork (.filterSet v)
  | .filterSet v => ({ s with filter := some v } : State).setWork .finishing
  | .finishing => s.setWork .idle

/-- The WORK agent takes `n` atomic steps. -/
def advanceWork : Nat → State → State
  | 0, s => s
  | n + 1, s => advanceWork n (workMicro 0 s)

end Sys2Proof.Machine
end

