-- ==== Sys2Proof/Machine/Dispatch.lean ====
section
/-! DEFINITION. One arm per instruction: the meaning it calls. -/

namespace Sys2Proof.Machine

def exec (i : Instr) (s : State) : Host.Outcome State Fault Refusal :=
  match i with
  | .ifAdd type hw => Sys2Proof.Machine.execIfAdd type hw s
  | .ifRemove h => Sys2Proof.Machine.execIfRemove h s
  | .devUnregister => Sys2Proof.Machine.execDevUnregister s
  | .devFree => Sys2Proof.Machine.execDevFree s
  | .cfgRead h reg => Sys2Proof.Machine.execCfgRead h reg s
  | .cfgWrite h reg value => Sys2Proof.Machine.execCfgWrite h reg value s
  | .decodeHdr bytes => Sys2Proof.Machine.execDecodeHdr bytes s
  | .encodeHdr h type sec ackreq seq dst src => Sys2Proof.Machine.execEncodeHdr h type sec ackreq seq dst src s
  | .buildAck seq => Sys2Proof.Machine.execBuildAck seq s
  | .crcCompute bytes => Sys2Proof.Machine.execCrcCompute bytes s
  | .crcAppend bytes => Sys2Proof.Machine.execCrcAppend bytes s
  | .crcVerify bytes => Sys2Proof.Machine.execCrcVerify bytes s
  | .classify h dst srcMode => Sys2Proof.Machine.execClassify h dst srcMode s
  | .rxFrame bytes => Sys2Proof.Machine.execRxFrame bytes s
  | .txFrame h type sec ackreq dst src payload => Sys2Proof.Machine.execTxFrame h type sec ackreq dst src payload s
  | .frameBeacon f => Sys2Proof.Machine.execFrameBeacon f s
  | .frameData f => Sys2Proof.Machine.execFrameData f s
  | .frameAck f => Sys2Proof.Machine.execFrameAck f s
  | .frameMaccmd f => Sys2Proof.Machine.execFrameMaccmd f s
  | .frameUnrecognized tt f => Sys2Proof.Machine.execFrameUnrecognized tt f s

end Sys2Proof.Machine
end

