-- ==== Sys2Proof/Machine/Schedule.lean ====
section
/-! DEFINITION. Which moves are enabled (R7, R382), and whose turn it is: the schedule in `State.sched`, or a free value
among the enabled moves (log 1). -/

namespace Sys2Proof.Machine

/-- The agent that runs a command: RX_FRAME the RX agent, TX_FRAME a TX agent of its own, any other the HOST agent (R7,
R111). -/
inductive Addressee where
  | host
  | rx
  | tx
  deriving DecidableEq, Repr, Inhabited

/-- The addressee of a descriptor, by its opcode byte. R7 and R111 give it for an operation; that a descriptor which is none
is taken, and its refusal answered, by the agent its first byte points to, HOST where it points to none or is missing, is a
DESIGN CHOICE (log 39). -/
def addressee (bs : List Byte) : Addressee :=
  match bs with
  | [] => .host
  | b :: _ => if b = Opcode.rxFrame.byte then .rx else if b = Opcode.txFrame.byte then .tx else .host

/-- The command at the head of CMD can be taken: HOST commands are serial (R7, D2), the one RX agent has one frame at a
time (R79) unless the command is refused anyway, TX_FRAME calls are concurrent (log 18). -/
def State.cmdReady (s : State) : Bool :=
  match s.cmdIn with
  | [] => false
  | bs :: _ =>
    match addressee bs with
    | .host => s.host == .idle
    | .rx => s.rx == none || !s.running
    | .tx => true

/-- The frame at the head of PHY_RX can be taken (R79, R251). -/
def State.phyReady (s : State) : Bool := !s.phyIn.isEmpty && (s.rx == none || !s.running)

/-- The HOST agent's moves: none while its wait is not over (R76). -/
def State.hostMoves (s : State) : List Move :=
  match s.host with
  | .idle => []
  | .removing _ n => if s.holds n then [] else [.host 0]
  | .unregistering _ => (List.range (max 1 s.boundSlots.length)).map .host
  | .unlinking _ n => if s.holds n then [] else [.host 0]
  | .draining _ => if s.wq = [] ∧ s.wqBusy = false then [.host 0] else []
  | .settling _ => if s.trav = [] then [.host 0] else []
  | .releasing _ => [.host 0]

/-- How many choices the RX agent's next step leaves open (R262, R265, R266). -/
def RxState.choices : RxState → Nat
  | .fanout _ [] taken => taken.length
  | .fanout _ (n :: rest) _ => (n :: rest).length
  | .handling hs => hs.length
  | .checksumCheck => 1
  | .decode => 1
  | .dropped _ => 1
  | .done => 1

/-- The RX agent's moves. -/
def State.rxMoves (s : State) : List Move :=
  match s.rx with
  | some c => (List.range (max 1 c.st.choices)).map .rx
  | none => []

/-- The TX agents' moves: a call whose item has not been executed waits (R311). -/
def State.txMoves (s : State) : List Move :=
  (s.tx.filter (fun c => c.stage != .waiting)).map (fun c => .tx c.k)

/-- The WORK agent's moves: any queued item may be taken (R26, R314). -/
def State.workMoves (s : State) : List Move :=
  match s.work with
  | .idle => if s.running then (List.range s.wq.length).map .work else []
  | .start _ | .tune _ | .tuning _ | .tuned _ | .send _ | .sending _ | .report _ _ | .filterSend _ | .filterSet _
  | .finishing => [.work 0]

/-- The moves enabled in a state. In `Fatal` operations in progress have no further step; commands are still answered
and frames discarded (R229, R352). A reset applied from outside takes effect in any state (R380). -/
def State.moves (s : State) : List Move :=
  (if s.resetIn then [.reset] else []) ++ (if s.cmdReady then [.cmd] else []) ++
    (if s.phyReady then [.phy] else []) ++
    (if s.life = .fatal then [] else s.hostMoves ++ s.rxMoves ++ s.txMoves ++ s.workMoves)

/-- Whose turn it is: the next entry of the schedule if its move is enabled (an entry that is not is skipped), or any
enabled move with any burst when the schedule is empty. -/
def State.turn (s : State) : Option Move × State :=
  match s.sched with
  | p :: ps =>
    if s.moves.contains p.move then (some p.move, { s with sched := ps, burst := p.burst })
    else (none, { s with sched := ps })
  | [] =>
    match s.moves[Config.freePick s.drawn % s.moves.length]? with
    | some m => (some m, { s with burst := Config.freeBurst s.drawn, drawn := s.drawn + 1 })
    | none => (none, s)

end Sys2Proof.Machine
end

