-- ==== Sys2Proof/Machine/Fetch.lean ====
section
/-! DEFINITION. What a move does: taking a command from CMD and running the instruction it decodes to, taking a frame
from PHY_RX, and one turn of an agent in progress; and how the host's test words are laid where the next step fetches. -/

namespace Sys2Proof.Machine

/-- Run the command just taken: the instruction it decodes to, or the refusal of a descriptor that is none (R114). -/
def runCommand (bs : List Byte) (s : State) : Host.Outcome State Fault Refusal :=
  match decode .cmd bs with
  | .ok i => exec i s
  | .error e => .next (s.refuse (Status.ofDecode e))

/-- Take the command at the head of CMD; it gets the next ticket. -/
def takeCommand (s : State) : Host.Outcome State Fault Refusal :=
  match s.cmdIn with
  | [] => .next s
  | bs :: rest => runCommand bs { s with cmdIn := rest, ticket := s.ticket + 1 }

/-- Take the frame at the head of PHY_RX (R250). More than `MAX_FRAME` bytes "cannot be presented" there (R251, D38): an
entry that long is no transaction of the port and is taken off the list with no effect (log 28). -/
def takeFrame (s : State) : Host.Outcome State Fault Refusal :=
  match s.phyIn with
  | [] => .next s
  | f :: rest =>
    if f.length ≤ maxFrame then receiveFrame f { s with phyIn := rest } else .next { s with phyIn := rest }

/-- One atomic step of the RX agent and its burst. -/
def runRx (s : State) : Host.Outcome State Fault Refusal := andThen (rxMicro s) (advanceRx s.burst)

/-- A turn of the RX agent whose choice has been brought to the front: a copy at its dispatch is run as the frame-type
pattern its frame control word decodes to (R275); any other step is the state machine's own. -/
def turnRx (s : State) : Host.Outcome State Fault Refusal :=
  match s.atDispatch with
  | some (_, h, _) =>
    match decodeFc h.copy.md.fc with
    | .ok i => exec i s
    | .error _ => runRx s
  | none => runRx s

/-- What an enabled move does. -/
def perform (m : Move) (s : State) : Host.Outcome State Fault Refusal :=
  match m with
  | .cmd => takeCommand s
  | .phy => takeFrame s
  | .host j => .next (advanceHost s.burst (hostMicro j s))
  | .rx j => turnRx (s.focusRx j)
  | .tx k => .next (advanceTx k s.burst (txMicro k s))
  | .work j => .next (advanceWork s.burst (workMicro j s))
  | .reset => .next s.restarted

/-! ## Laying an instruction where the next step fetches it (log 20) -/

/-- A burst that carries any one operation of this state to its end or to its wait. -/
def State.fullBurst (s : State) : Nat := 16 + 16 * s.slots.length

/-- A command: first on CMD, scheduled next, with the agent that runs it idle. -/
def State.withCommand (s : State) (bs : List Byte) : State :=
  { s with
    cmdIn := bs :: s.cmdIn
    sched := ⟨.cmd, s.fullBurst⟩ :: s.sched
    host := if addressee bs = .host then .idle else s.host
    rx := if addressee bs = .rx then none else s.rx }

/-- The metadata of the frame that starts with these bytes; where DECODE_HDR rejects it, the fields of its frame control
word. -/
def mdOfBytes (bs : List Byte) : Md :=
  match decodeHdr fcLayout bs bs.length with
  | .ok md => { md with scope := some .host }
  | .error _ => { Md.ofHeader fcLayout (le16 (byteAt bs 0) (byteAt bs 1)) (byteAt bs 2) .none .none 3 with
      scope := some .host }

/-- A frame control word: a received frame with it, whose one copy has reached its dispatch, scheduled next. A
block in `Fatal`, where no copy moves (R229), is laid as `Live` (DESIGN CHOICE, log 20). -/
def State.withFrame (s : State) (bs : List Byte) : State :=
  { s with
    life := if s.life = .fatal then .live else s.life
    fatalCause := if s.life = .fatal then .none else s.fatalCause
    sched := ⟨.rx 0, 0⟩ :: s.sched
    rx := some ⟨.radio, bs, (mdOfBytes bs).hdrLen, (mdOfBytes bs).hdrLen,
      .handling [⟨0, true, ⟨bs, (mdOfBytes bs).hdrLen, mdOfBytes bs⟩, .dispatch⟩], []⟩ }

/-- `State.withFetchWord`, by port. -/
def State.laid (s : State) (nbits w : Nat) : State :=
  match tablePort nbits with
  | .cmd => s.withCommand (tableBytes nbits w)
  | .phyRx => s.withFrame ((tableBytes nbits w).take hdrMax)

end Sys2Proof.Machine
end

