-- ==== Sys2Proof/Machine/Step.lean ====
section
/-! DEFINITION. One step of the block: the agent whose turn it is takes its atomic step (R7, R70); when no agent has an
enabled step nothing happens (R382). -/

namespace Sys2Proof.Machine

/-- One step. -/
def step (s : State) : Host.Outcome State Fault Refusal :=
  match s.turn with
  | (some m, s') => perform m s'
  | (none, s') => .next s'

/-- `s` with an instruction, its bits numbered as spec/opcode_table.json numbers them, laid where the very next step
fetches and runs it (log 20). -/
def State.withFetchWord (s : State) (nbits w : Nat) : State := s.laid nbits w

end Sys2Proof.Machine
end

