-- ==== Sys2Proof/Safety.lean ====
section
/-! DEFINITION. What a good state of the block is: the invariants the claims are stated in. Each is a decidable
proposition; the claims say which of them every step keeps. -/

namespace Sys2Proof.Machine

/-! ## Interface bank and traversals -/

/-- The bank has `N_IF` slots (R5, R30). -/
abbrev State.BankSized (s : State) : Prop := s.slots.length = s.cfg.nIf

/-- Every slot a traversal holds has fields to read: its fields "keep their last values for as long as a traversal still
holds the slot" (R221). -/
abbrev State.SlotsHeld (s : State) : Prop :=
  ∀ n ∈ s.trav.flatten, ((s.slots[n]?).bind Slot.fields).isSome = true

/-- The slots a frame still has to visit or handle, and those it has handled. -/
def RxCtx.slotsOf (c : RxCtx) : List Nat :=
  match c.st with
  | .fanout _ todo taken => todo ++ taken
  | .handling hs => hs.map HandleCtx.slot ++ c.outcomes.map Prod.fst
  | .checksumCheck => []
  | .decode => []
  | .dropped _ => []
  | .done => []

/-- No frame has a slot twice (R262: `S` is a list without repetition). -/
abbrev State.SlotsOnce (s : State) : Prop := ∀ c ∈ s.rx, c.slotsOf.Nodup

/-- An unlinked slot whose fields are kept. -/
def Slot.unlinked (sl : Slot) : Bool :=
  match sl.occ with
  | .unlinked _ => true
  | .free => false
  | .bound _ => false

/-! ## Work queue -/

/-- The work queue holds at most `WQ_DEPTH` items (R26). -/
abbrev State.QueueBounded (s : State) : Prop := s.wq.length ≤ s.cfg.wqDepth

/-- The queued filter updates. -/
def State.filterUpdates (s : State) : List WorkItem :=
  s.wq.filter (fun w => match w with | .filterUpdate _ => true | .xmit _ => false)

/-- At most one `FilterUpdate(h)` per handle waits in the queue (R235). -/
abbrev State.UpdatesOnce (s : State) : Prop := s.filterUpdates.Nodup

/-! ## Widths -/

/-- The drop counters and the generations stay within the widths the block is built with (R5, R27, R30). -/
abbrev State.WithinWidths (s : State) : Prop :=
  s.cntBadcsum < 2 ^ s.cfg.cntWidth ∧ s.cntMalformed < 2 ^ s.cfg.cntWidth ∧
    ∀ sl ∈ s.slots, sl.gen.toNat < 2 ^ s.cfg.genWidth

/-! ## Life cycle -/

/-- All slots are free. -/
abbrev State.Vacant (s : State) : Prop := ∀ sl ∈ s.slots, sl.occ = .free

/-- Nothing of the work queue is left. -/
abbrev State.Drained (s : State) : Prop := s.wq = [] ∧ s.work = .idle

/-- Every unlinked slot is the one the HOST agent's grace period waits for. -/
def HostStage.awaited : HostStage → Option Nat
  | .removing _ n => some n
  | .unlinking _ n => some n
  | .idle => none
  | .unregistering _ => none
  | .draining _ => none
  | .settling _ => none
  | .releasing _ => none

/-- Each slot is bound or free, but for the one whose grace period the HOST agent waits out. -/
abbrev State.GraceAwaited (s : State) : Prop :=
  ∀ n < s.slots.length, (s.slots[n]?).map Slot.unlinked = some true → s.host.awaited = some n

/-- What the HOST agent's stage says of the life state, the bank and the queue (R225, R226, R228). -/
def State.TeardownOrder (s : State) : Prop :=
  match s.host with
  | .idle => s.life ≠ .draining
  | .removing _ _ => s.life = .live
  | .unregistering _ => s.life = .draining
  | .unlinking _ _ => s.life = .draining
  | .draining _ => s.life = .draining ∧ s.Vacant
  | .settling _ => s.life = .draining ∧ s.Vacant ∧ s.Drained
  | .releasing _ => s.life = .draining ∧ s.Vacant ∧ s.Drained

/-- A released device has no interface and no work left: it "cannot be freed while its interface set is non-empty or
while any operation holds a live reference" (R22). -/
abbrev State.ReleasedEmpty (s : State) : Prop := s.life = .released → s.Vacant ∧ s.Drained

/-- `DEV.fatal_cause` is written exactly when `DEV.life` becomes `Fatal`, and only with `NonEmptyFree` (R23, R351). -/
abbrev State.CauseAgrees (s : State) : Prop :=
  (s.life = .fatal ↔ s.fatalCause = .nonEmptyFree) ∧ s.fatalCause ≠ .typeTag

/-- The life-cycle invariant. -/
structure State.Lifecycle (s : State) : Prop where
  held : s.SlotsHeld
  grace : s.GraceAwaited
  order : s.TeardownOrder
  released : s.ReleasedEmpty
  cause : s.CauseAgrees

/-! ## Frames in progress -/

/-- A header DECODE_HDR can have produced for a frame of this length (R40, R100, R115). -/
abbrev Md.WellShaped (md : Md) (len : Nat) : Prop :=
  fcFault fcLayout md.fc = none ∧ md.type = fcType md.fc ∧ md.sec = false ∧ 3 ≤ md.hdrLen ∧ md.hdrLen ≤ 23 ∧
    md.hdrLen ≤ len

/-- The metadata a frame in fan-out carries, and that of every copy in its handle, come from an accepted header (R140). -/
def State.HeadersAccepted (s : State) : Prop :=
  ∀ c ∈ s.rx,
    match c.st with
    | .fanout md _ _ => md.WellShaped c.len
    | .handling hs => ∀ h ∈ hs, h.copy.md.WellShaped h.copy.len
    | .checksumCheck => True
    | .decode => True
    | .dropped _ => True
    | .done => True

/-- The frame in progress lies within `MAX_FRAME` bytes (R60), its declared length within its bytes, and the header
cursor, 0 before the decode, within the declared length (R41). -/
abbrev State.FrameBounded (s : State) : Prop :=
  ∀ c ∈ s.rx, (c.st = .checksumCheck → c.cur = 0) ∧ c.cur ≤ c.len ∧ c.len ≤ c.buf.length ∧ c.buf.length ≤ 127

/-! ## Transmit calls -/

/-- The ticket of the TX_FRAME call an `Xmit` item belongs to. -/
def Origin.call : Origin → Option Nat
  | .txCall k => some k
  | .ackSynth => none

/-- The call of a queued item. -/
def WorkItem.call : WorkItem → Option Nat
  | .xmit x => x.origin.call
  | .filterUpdate _ => none

/-- The call of the item being executed, until its result is reported. -/
def WorkStage.call : WorkStage → Option Nat
  | .start w => w.call
  | .tune x => x.origin.call
  | .tuning x => x.origin.call
  | .tuned x => x.origin.call
  | .send x => x.origin.call
  | .sending x => x.origin.call
  | .report x _ => x.origin.call
  | .idle => none
  | .filterSend _ => none
  | .filterSet _ => none
  | .finishing => none

/-- The calls whose item is queued or being executed. -/
def State.pendingCalls (s : State) : List Nat := s.wq.filterMap WorkItem.call ++ s.work.call.toList

/-- The calls that wait for their item. -/
def State.waitingCalls (s : State) : List Nat :=
  (s.tx.filter (fun c => c.stage == .waiting)).map TxCtx.k

/-- No call is lost and none is answered twice: the calls in progress have different tickets, none later than the last
one given out, and the waiting calls are, in some order, exactly the calls of the items queued or being executed
(R311, R318). -/
structure State.CallsTracked (s : State) : Prop where
  tickets : (s.tx.map TxCtx.k).Nodup
  issued : ∀ c ∈ s.tx, c.k ≤ s.ticket
  matched : s.waitingCalls.Perm s.pendingCalls

/-! ## Terms the claims use -/

/-- The state after the command in hand has answered with these bytes and done nothing else (R110, R345). -/
abbrev State.replied (s : State) (bytes : List Byte) : State := { s with out := s.out ++ [.response s.ticket bytes] }

/-- `alen` of a mode code (R97). -/
def wireAlen (mode : BitVec 2) : Nat := if mode = 0#2 then 0 else if mode = 2#2 then 2 else 8

/-- The header length formula (R100). -/
def wireLen (dam sam : BitVec 2) (ip : Bool) : Nat :=
  3 + (if dam ≠ 0#2 then 2 + wireAlen dam else 0) +
    (if sam ≠ 0#2 then (if ip = true then 0 else 2) + wireAlen sam else 0)

/-- A 16-bit field at an offset (R99). -/
def wireHalf (buf : List Byte) (off : Nat) : Half := le16 (byteAt buf off) (byteAt buf (off + 1))

/-- An address field of a mode at an offset, with its PAN id: a long one is `a[i] = buf[off + 7 - i]` (R99, R106). -/
def wireAddress (buf : List Byte) (mode : BitVec 2) (pan : Half) (off : Nat) : Address :=
  if mode = 0#2 then .none
  else if mode = 2#2 then .short pan (wireHalf buf off)
  else .long pan ⟨byteAt buf (off + 7), byteAt buf (off + 6), byteAt buf (off + 5), byteAt buf (off + 4),
    byteAt buf (off + 3), byteAt buf (off + 2), byteAt buf (off + 1), byteAt buf off⟩

/-- The length of a received frame after the checksum was stripped, or untouched (R253, R254). -/
def State.strippedLen (s : State) (bytes : List Byte) : Nat :=
  if s.cfg.omitsChecksum = true then bytes.length else bytes.length - 2

/-- The frame passes stage 1 (R252, R254). -/
def State.passesChecksum (s : State) (bytes : List Byte) : Prop :=
  s.cfg.omitsChecksum = true ∨ (2 ≤ bytes.length ∧ crc16 bytes = 0#16)

/-- The slots a fan-out of this state takes when nothing changes meanwhile, in rising order (R261). -/
def State.matching (s : State) : List Nat := (List.range s.slots.length).filter s.matchesSlot

/-- The generation after a removal: one more, modulo 2^`GEN_WIDTH` (R220). -/
def genAfter (cfg : Config) (g : Byte) : Byte := BitVec.ofNat 8 ((g.toNat + 1) % 2 ^ cfg.genWidth)

/-- A slot after its removal and grace period: `valid` 0, the generation one more (R220, R221). -/
def Slot.removed (cfg : Config) (sl : Slot) : Slot := if sl.valid = true then ⟨genAfter cfg sl.gen, .free⟩ else sl

/-- The bytes of a frame's checksum, if it carries one (R308). -/
def checksumBytes (cfg : Config) (bs : List Byte) : List Byte :=
  if cfg.omitsChecksum = true then [] else halfBytes (crc16 bs)

/-- The source address of a transmission from interface `i`: the one given, or synthesized (R148). -/
def sourceFrom (src : Option Address) (i : Iface) : Address :=
  src.getD (if i.short = 0xFFFF#16 ∨ i.short = 0xFFFE#16 ∨ i.pan = 0xFFFF#16 then .long i.pan i.hwAddr
    else .short i.pan i.short)

/-- What a queued item's end does to its caller: the call with that ticket gets the result (R318). -/
def delivered (tx : List TxCtx) (k : Nat) (r : XmitResult) : List TxCtx :=
  tx.map (fun c => if c.k = k then { c with stage := .completed r } else c)

/-- The calls after an `Xmit` item has ended with a result (R318). -/
def Origin.informed (o : Origin) (tx : List TxCtx) (r : XmitResult) : List TxCtx :=
  match o with
  | .txCall k => delivered tx k r
  | .ackSynth => tx

/-- The event of an acknowledgement that was not sent (R318). -/
def Xmit.notice (x : Xmit) (r : XmitResult) : List PortOut :=
  match x.origin with
  | .txCall _ => []
  | .ackSynth => if r = .ok then [] else [.event .ackNotSent (byteAt x.frame 2).toNat]

/-- The result of the radio's answer to `transmit` (R315). -/
def resultOf : TransmitAnswer → XmitResult
  | .ok => .ok
  | .busy => .deviceBusy

/-- A long address as a 64-bit number, byte `a[i]` at bits [8i+7:8i] (R46). -/
def longNumber (a : LongAddr) : Nat :=
  a.a0.toNat + 2 ^ 8 * a.a1.toNat + 2 ^ 16 * a.a2.toNat + 2 ^ 24 * a.a3.toNat + 2 ^ 32 * a.a4.toNat +
    2 ^ 40 * a.a5.toNat + 2 ^ 48 * a.a6.toNat + 2 ^ 56 * a.a7.toNat

/-- The interface after a sequence number was taken (R304). -/
def Iface.taken (i : Iface) (type : Byte) : Iface :=
  if type = 0#8 then { i with bsn := i.bsn + 1#8 } else { i with dsn := i.dsn + 1#8 }

/-- The command at the head of CMD, by the agent it is addressed to. -/
def State.headAddressee (s : State) : Option Addressee := s.cmdIn.head?.map addressee

end Sys2Proof.Machine
end

