-- ==== Sys2Proof/Certificates/Slice0/Obligations.lean ====
section
/-! DEFINITION. The statements for the provers, by the spec's files: encodings (30), codec (40), checksum (41), classifier
(42), registry (43), receive (44), transmit (45), state, reset and whole-machine rules (00, 10, 20, 60, 70). -/

open Sys2Proof Sys2Proof.Machine

/-! ## Encodings -/

/-- R110 to R112, R93: every well-formed instruction decodes back from its bytes, every operand at every value. -/
def Obligations.DecodeEncodeRoundTrip : Prop :=
  ∀ i : Instr, WellFormed i = true → decode (portOf i) (encode i) = .ok i

/-- R110 to R114: a descriptor decodes to `i` exactly when it is the encoding of the well-formed command `i`, followed by
zero bytes only. That trailing zeros are accepted (log 12), that a non-zero `slot`, `gen` or `reg` byte of an operation
that does not use it decodes to nothing (log 13), and so a `src_given` byte (log 14) or a `src_mode` byte (log 38) of
another value, is the model's reading. -/
def Obligations.CommandDecodingExact : Prop :=
  ∀ (bs : List Byte) (i : Instr), decodeCmd bs = .ok i ↔
    portOf i = .cmd ∧ WellFormed i = true ∧ ∃ n, bs = encode i ++ List.replicate n 0#8

/-- R93, R94, R115: a frame control word selects the pattern `i` exactly when it is the encoding of the well-formed
pattern `i`; the rejected words select none. -/
def Obligations.FrameWordDecodingExact : Prop :=
  ∀ (fc : Half) (i : Instr), decodeFc fc = .ok i ↔
    portOf i = .phyRx ∧ WellFormed i = true ∧ encode i = halfBytes fc

/-- 95_test_vectors G1, G4, G5, E1, K1, T1 and the frame control words 0x2231 (DE1), 0x0002, 0x0000, 0x0203, 0x0007: a
few words decode to the instruction they stand for. -/
def Obligations.SpecWordsDecode : Prop :=
  decode .cmd [0x01#8, 0x00#8, 0x00#8, 0x00#8, 0x00#8, 0x00#8, 0x11#8, 0x22#8, 0x33#8, 0x44#8, 0x55#8, 0x66#8, 0x77#8] =
      .ok (.ifAdd 0#8 ⟨0x00#8, 0x11#8, 0x22#8, 0x33#8, 0x44#8, 0x55#8, 0x66#8, 0x77#8⟩) ∧
    decode .cmd [0x02#8, 0x00#8, 0x01#8, 0x00#8] = .ok (.ifRemove ⟨0#8, 1#8⟩) ∧
    decode .cmd [0x06#8, 0x00#8, 0x00#8, 0x11#8, 0x34#8, 0x12#8, 0#8, 0#8, 0#8, 0#8, 0#8, 0#8] =
      .ok (.cfgWrite ⟨0#8, 0#8⟩ 0x11#8 0x1234#64) ∧
    decode .cmd [0x11#8, 0#8, 0#8, 0#8, 0x01#8, 0x02#8, 0x2A#8, 0x02#8, 0x34#8, 0x12#8, 0x42#8, 0x00#8, 0x01#8, 0x02#8,
        0x34#8, 0x12#8, 0x01#8, 0x00#8] =
      .ok (.encodeHdr ⟨0#8, 0#8⟩ 1#8 false true 0x2A#8 (.short 0x1234#16 0x0042#16) (some (.short 0x1234#16 0x0001#16))) ∧
    decode .cmd [0x20#8, 0#8, 0#8, 0#8, 0x02#8, 0x34#8, 0x12#8, 0x42#8, 0x00#8, 0x02#8] =
      .ok (.classify ⟨0#8, 0#8⟩ (.short 0x1234#16 0x0042#16) .short) ∧
    decode .cmd [0x38#8, 0#8, 0#8, 0#8, 0x01#8, 0x02#8, 0x02#8, 0x34#8, 0x12#8, 0x01#8, 0x00#8, 0x00#8, 0x02#8, 0x48#8,
        0x69#8] =
      .ok (.txFrame ⟨0#8, 0#8⟩ 1#8 false true (.short 0x1234#16 0x0001#16) none [0x48#8, 0x69#8]) ∧
    decode .phyRx [0x31#8, 0x22#8] = .ok (.frameData ⟨false, true, true, 0#2, 2#2, 0#2, 2#2, 0#2⟩) ∧
    decode .phyRx [0x02#8, 0x00#8] = .ok (.frameAck ⟨false, false, false, 0#2, 0#2, 0#2, 0#2, 0#2⟩) ∧
    decode .phyRx [0x00#8, 0x00#8] = .ok (.frameBeacon ⟨false, false, false, 0#2, 0#2, 0#2, 0#2, 0#2⟩) ∧
    decode .phyRx [0x03#8, 0x02#8] = .ok (.frameMaccmd ⟨false, false, false, 0#2, 2#2, 0#2, 0#2, 0#2⟩) ∧
    decode .phyRx [0x07#8, 0x00#8] = .ok (.frameUnrecognized 3#2 ⟨false, false, false, 0#2, 0#2, 0#2, 0#2, 0#2⟩)

/-- R114: taking a command whose opcode is not listed answers `IllegalCommand`, one whose opcode is listed but which is
no well-formed descriptor answers `BadOperand`; the ticket advances, nothing else changes. What is well-formed rests on the
model's reading of trailing zeros (log 12), unused fields (log 13), `src_given` (log 14) and `src_mode` (log 38), and that
both refusals are given in `Released` and `Fatal` too, before the life gate, on log 30. -/
def Obligations.UndecodableCommandRefused : Prop :=
  ∀ (s : State) (op : Byte) (body : List Byte) (queue : List (List Byte)), s.cmdIn = (op :: body) :: queue →
    let listed := op ∈ [0x01#8, 0x02#8, 0x03#8, 0x04#8, 0x05#8, 0x06#8, 0x10#8, 0x11#8, 0x12#8, 0x18#8, 0x19#8, 0x1A#8,
      0x20#8, 0x30#8, 0x38#8]
    let taken : State := { s with cmdIn := queue, ticket := s.ticket + 1 }
    (¬ listed → perform .cmd s = .next (taken.replied [0x10#8, 0#8])) ∧
      (listed → (∀ (i : Instr) (n : Nat), portOf i = .cmd → WellFormed i = true →
          op :: body ≠ encode i ++ List.replicate n 0#8) →
        perform .cmd s = .next (taken.replied [0x0F#8, 0#8]))

/-! ## DECODE_HDR -/

/-- R154: for every input ENCODE_HDR accepts, DECODE_HDR of its output followed by any payload gives back type, ackreq,
sequence, destination and source, with `sec` 0, `intrapan` the compression bit and `hdr_len` the output's length; for
every layout of the frame control word with disjoint fields (93_implementation_defined G1). -/
def Obligations.HeaderRoundTrip : Prop :=
  ∀ (L : FcLayout) (type : Byte) (sec ackreq : Bool) (dst : Address) (src : Option Address) (seq : Byte) (v : Snap)
    (hdr payload : List Byte), L.disjoint = true → encodeHdr L type sec ackreq dst src seq v = .ok hdr →
    ∃ md, decodeHdr L (hdr ++ payload) (hdr ++ payload).length = .ok md ∧ md.type = type.setWidth 3 ∧ md.sec = false ∧
      md.ackreq = ackreq ∧ md.intrapan = compress dst (sourceOf src v) ∧ md.dam = dst.mode.bits ∧
      md.sam = (sourceOf src v).mode.bits ∧ md.seq = seq ∧ md.dst = dst ∧ md.src = sourceOf src v ∧
      md.hdrLen = hdr.length ∧ md.scope = none

/-- R143: every strict prefix of an encoded header fails: `TooShort` below 3 bytes, `Truncated` otherwise. -/
def Obligations.TruncatedHeaderFails : Prop :=
  (∀ (L : FcLayout) (type : Byte) (sec ackreq : Bool) (dst : Address) (src : Option Address) (seq : Byte) (v : Snap)
      (hdr : List Byte) (n : Nat), L.disjoint = true → encodeHdr L type sec ackreq dst src seq v = .ok hdr →
      n < hdr.length →
      (n < 3 → ∃ c, decodeHdr L (hdr.take n) n = .error (.tooShort, c)) ∧
        (3 ≤ n → ∃ c, decodeHdr L (hdr.take n) n = .error (.truncated, c))) ∧
    ∀ (L : FcLayout) (seq : Byte) (n : Nat), n < 3 → ∃ c, decodeHdr L ((ackHeader seq).take n) n = .error (.tooShort, c)

/-- R142, R62: DECODE_HDR depends on the bytes below the declared length only; where it succeeds, on the bytes below
`hdr_len` only; and as a command it writes no state but the response. -/
def Obligations.DecodeReadsHeaderOnly : Prop :=
  (∀ (L : FcLayout) (buf buf' : List Byte) (len : Nat), (∀ k < len, byteAt buf k = byteAt buf' k) →
      decodeHdr L buf len = decodeHdr L buf' len) ∧
    (∀ (L : FcLayout) (buf buf' : List Byte) (len len' : Nat) (md : Md), decodeHdr L buf len = .ok md →
      (∀ k < md.hdrLen, byteAt buf k = byteAt buf' k) → md.hdrLen ≤ len' → decodeHdr L buf' len' = .ok md) ∧
    ∀ (bytes : List Byte) (s t : State), exec (.decodeHdr bytes) s = .next t → t = { s with out := t.out }

/-- R100, R106, R133, R140: every field of a decoded header comes from the wire as the tables say, and `hdr_len` is the
formula of R100, 3 to 23 and within the declared length. -/
def Obligations.DecodedHeaderFromWire : Prop :=
  ∀ (buf : List Byte) (len : Nat) (md : Md), decodeHdr fcLayout buf len = .ok md →
    let fc := wireHalf buf 0
    let p := 3 + (if md.dam ≠ 0#2 then 2 + wireAlen md.dam else 0)
    md.fc = fc ∧ md.type = fc.extractLsb' 0 3 ∧ md.sec = fc.getLsbD 3 ∧ md.ackreq = fc.getLsbD 4 ∧
      md.intrapan = fc.getLsbD 5 ∧ md.dam = fc.extractLsb' 8 2 ∧ md.sam = fc.extractLsb' 12 2 ∧ md.seq = byteAt buf 2 ∧
      md.dst = wireAddress buf md.dam (wireHalf buf 3) 5 ∧
      md.src = (if md.intrapan = true then wireAddress buf md.sam (wireHalf buf 3) p
        else wireAddress buf md.sam (wireHalf buf p) (p + 2)) ∧
      md.hdrLen = wireLen md.dam md.sam md.intrapan ∧ 3 ≤ md.hdrLen ∧ md.hdrLen ≤ 23 ∧ md.hdrLen ≤ len ∧ md.scope = none

/-- R141 (R131, R134, R135, R136, R137, R62): which error DECODE_HDR reports, in the order of the checks, and that it
succeeds exactly when none applies. -/
def Obligations.HeaderCheckOrder : Prop :=
  ∀ (buf : List Byte) (len : Nat),
    let fc := wireHalf buf 0
    let sec := fc.getLsbD 3 = true
    let badMode := fc.extractLsb' 8 2 = 1#2 ∨ fc.extractLsb' 12 2 = 1#2
    let badAck := fc.extractLsb' 0 3 = 2#3 ∧ (fc.extractLsb' 8 2 ≠ 0#2 ∨ fc.extractLsb' 12 2 ≠ 0#2)
    let badCombo := fc.getLsbD 5 = true ∧ fc.extractLsb' 8 2 = 0#2 ∧ fc.extractLsb' 12 2 ≠ 0#2
    let need := wireLen (fc.extractLsb' 8 2) (fc.extractLsb' 12 2) (fc.getLsbD 5)
    (len < 3 → ∃ c, decodeHdr fcLayout buf len = .error (.tooShort, c)) ∧
      (3 ≤ len → sec → ∃ c, decodeHdr fcLayout buf len = .error (.unsupportedFeature, c)) ∧
      (3 ≤ len → ¬ sec → badMode → ∃ c, decodeHdr fcLayout buf len = .error (.badAddrMode, c)) ∧
      (3 ≤ len → ¬ sec → ¬ badMode → badAck → ∃ c, decodeHdr fcLayout buf len = .error (.badAckShape, c)) ∧
      (3 ≤ len → ¬ sec → ¬ badMode → ¬ badAck → badCombo →
        ∃ c, decodeHdr fcLayout buf len = .error (.badAddrCombo, c)) ∧
      (3 ≤ len → ¬ sec → ¬ badMode → ¬ badAck → ¬ badCombo → len < need →
        ∃ c, decodeHdr fcLayout buf len = .error (.truncated, c)) ∧
      (3 ≤ len → ¬ sec → ¬ badMode → ¬ badAck → ¬ badCombo → need ≤ len →
        ∃ md, decodeHdr fcLayout buf len = .ok md)

/-- R96: frames that differ only in the reserved bits of the frame control word decode alike but for the word kept in
`MD.fc`; the encoder and BUILD_ACK write the reserved bits as 0. The mask 0x333F covers the bits that are not reserved. -/
def Obligations.ReservedBitsIgnored : Prop :=
  (∀ (buf buf' : List Byte) (len : Nat), (∀ k, 2 ≤ k → byteAt buf k = byteAt buf' k) →
      wireHalf buf 0 &&& 0x333F#16 = wireHalf buf' 0 &&& 0x333F#16 →
      (∀ md, decodeHdr fcLayout buf len = .ok md →
          decodeHdr fcLayout buf' len = .ok { md with fc := wireHalf buf' 0 }) ∧
        ∀ e, decodeHdr fcLayout buf len = .error e → decodeHdr fcLayout buf' len = .error e) ∧
    (∀ (type : Byte) (sec ackreq : Bool) (dst : Address) (src : Option Address) (seq : Byte) (v : Snap) (hdr : List Byte),
      encodeHdr fcLayout type sec ackreq dst src seq v = .ok hdr → wireHalf hdr 0 &&& 0xCCC0#16 = 0#16) ∧
    ∀ seq : Byte, wireHalf (ackHeader seq) 0 &&& 0xCCC0#16 = 0#16

/-- R130, R111, R341: the command DECODE_HDR answers the header, or the code and detail of the error. -/
def Obligations.DecodeHdrAnswers : Prop :=
  ∀ (bytes : List Byte) (s : State), s.running = true →
    (∀ md, decodeHdr fcLayout bytes bytes.length = .ok md →
      exec (.decodeHdr bytes) s = .next (s.replied ([0#8, lo md.fc, hi md.fc, md.seq, BitVec.ofNat 8 md.hdrLen] ++
        addressOp md.dst ++ addressOp md.src))) ∧
    (∀ (e : HdrError) (c : Nat) (code detail : Byte), decodeHdr fcLayout bytes bytes.length = .error (e, c) →
      (e, code, detail) ∈ [(HdrError.tooShort, 2#8, 1#8), (.badAddrMode, 2#8, 2#8), (.badAckShape, 2#8, 3#8),
        (.badAddrCombo, 2#8, 4#8), (.truncated, 2#8, 5#8), (.unsupportedFeature, 3#8, 0#8)] →
      exec (.decodeHdr bytes) s = .next (s.replied [code, detail]))

/-! ## ENCODE_HDR and BUILD_ACK -/

/-- R145, R148, R153: with a valid handle, a destination, no security and type Beacon, Data or MacCommand, ENCODE_HDR
answers the header for the source given, or for the one synthesized from the interface. -/
def Obligations.EncodeHdrAnswers : Prop :=
  ∀ (h : Handle) (type : Byte) (ackreq : Bool) (seq : Byte) (dst : Address) (src : Option Address) (s : State) (i : Iface),
    s.life = .live → s.ifaceOf h = some i → dst.mode ≠ .none → type = 0#8 ∨ type = 1#8 ∨ type = 3#8 →
    let hdr := headerBytes fcLayout (type.setWidth 3) ackreq dst (sourceFrom src i) seq
    exec (.encodeHdr h type false ackreq seq dst src) s =
      .next (s.replied ([0#8, BitVec.ofNat 8 hdr.length] ++ hdr))

/-- R149, R150, R151, R152: the header byte by byte: the frame control word field by field, low byte first, the sequence
number, the destination's PAN id low byte first and its address (short: low byte first; long: the 8 bytes of the host form
in the opposite order), the source in the same form without its PAN id exactly when both PAN ids are equal and not 0xFFFF;
7 to 23 bytes with a destination. -/
def Obligations.HeaderWireForm : Prop :=
  ∀ (type : BitVec 3) (ackreq : Bool) (dst src : Address) (seq : Byte), ∃ ip : Bool,
    (ip = true ↔ ∃ p, dst.pan? = some p ∧ src.pan? = some p ∧ p ≠ 0xFFFF#16) ∧
    (let low (v : Half) : Byte := v.setWidth 8
      let high (v : Half) : Byte := (v >>> 8).setWidth 8
      let pan (a : Address) : List Byte :=
        match a with
        | .none => []
        | .short p _ => [low p, high p]
        | .long p _ => [low p, high p]
      let field (a : Address) : List Byte :=
        match a with
        | .none => []
        | .short _ x => [low x, high x]
        | .long _ ⟨a0, a1, a2, a3, a4, a5, a6, a7⟩ => [a7, a6, a5, a4, a3, a2, a1, a0]
      let fc : Half := 0#2 ++ src.mode.bits ++ 0#2 ++ dst.mode.bits ++ 0#2 ++ BitVec.ofBool ip ++ BitVec.ofBool ackreq ++
        0#1 ++ type
      headerBytes fcLayout type ackreq dst src seq =
        [low fc, high fc, seq] ++ pan dst ++ field dst ++ (if ip = true then [] else pan src) ++ field src) ∧
    (dst.mode ≠ .none →
      (headerBytes fcLayout type ackreq dst src seq).length = wireLen dst.mode.bits src.mode.bits ip ∧
        7 ≤ (headerBytes fcLayout type ackreq dst src seq).length ∧
        (headerBytes fcLayout type ackreq dst src seq).length ≤ 23)

/-- R146, R147: ENCODE_HDR refuses a missing destination, security, type Ack and types 4 and up, in this order, with a
valid handle in `Live`, and changes nothing. That type bytes above 7 are refused like 4 to 7, and that the handle comes
first, is the model's reading (logs 15, 16). -/
def Obligations.EncodeHdrRefusals : Prop :=
  ∀ (h : Handle) (type : Byte) (sec ackreq : Bool) (seq : Byte) (dst : Address) (src : Option Address) (s : State),
    s.life = .live → s.handleOk h = true →
    (dst.mode = .none → exec (.encodeHdr h type sec ackreq seq dst src) s = .next (s.replied [9#8, 1#8])) ∧
      (dst.mode ≠ .none → sec = true → exec (.encodeHdr h type sec ackreq seq dst src) s = .next (s.replied [3#8, 0#8])) ∧
      (dst.mode ≠ .none → sec = false → type = 2#8 →
        exec (.encodeHdr h type sec ackreq seq dst src) s = .next (s.replied [9#8, 2#8])) ∧
      (dst.mode ≠ .none → sec = false → 4 ≤ type.toNat →
        exec (.encodeHdr h type sec ackreq seq dst src) s = .next (s.replied [9#8, 3#8]))

/-- R160: BUILD_ACK answers `02 00 seq`, and DECODE_HDR of it gives an Ack with that sequence number, no flag, no address
and `hdr_len` 3. -/
def Obligations.BuildAckAnswers : Prop :=
  ∀ (seq : Byte) (s : State), s.running = true →
    exec (.buildAck seq) s = .next (s.replied [0#8, 0x02#8, 0x00#8, seq]) ∧
      decodeHdr fcLayout [0x02#8, 0x00#8, seq] 3 = .ok { fc := 0x0002#16, type := 2#3, sec := false, ackreq := false
                                                         intrapan := false, dam := 0#2, sam := 0#2, seq := seq
                                                         dst := .none, src := .none, hdrLen := 3, scope := none }

/-! ## Checksum -/

/-- R170, R172, R174, R176: the CRC is the shift register of R170, and the three commands answer with it. -/
def Obligations.CrcCommandsAnswer : Prop :=
  ∀ (bs : List Byte) (s : State), s.running = true →
    let shift : Half → Half := fun c => if c.getLsbD 0 = true then (c >>> 1) ^^^ 0x8408#16 else c >>> 1
    let crc : Half := bs.foldl (fun c b => shift^[8] (c ^^^ b.setWidth 16)) 0#16
    exec (.crcCompute bs) s = .next (s.replied [0#8, lo crc, hi crc]) ∧
      (bs.length ≤ 125 → exec (.crcAppend bs) s =
        .next (s.replied ([0#8, BitVec.ofNat 8 (bs.length + 2)] ++ bs ++ [lo crc, hi crc]))) ∧
      (125 < bs.length → exec (.crcAppend bs) s = .next (s.replied [0x0A#8, 0#8])) ∧
      (2 ≤ bs.length ∧ crc = 0#16 → exec (.crcVerify bs) s = .next (s.replied [0#8])) ∧
      (bs.length < 2 ∨ crc ≠ 0#16 → exec (.crcVerify bs) s = .next (s.replied [1#8, 0#8]))

/-- R177: the checksum of every byte sequence, appended low byte first, gives residue 0, and CRC_VERIFY accepts it. -/
def Obligations.AppendedChecksumVerifies : Prop :=
  ∀ bs : List Byte, crc16 (bs ++ [lo (crc16 bs), hi (crc16 bs)]) = 0#16 ∧
    ∀ s : State, s.running = true → bs.length ≤ 125 →
      exec (.crcVerify (bs ++ [lo (crc16 bs), hi (crc16 bs)])) s = .next (s.replied [0#8])

/-- Derived from R170: two trailing bytes give residue 0 exactly when they are the checksum of the bytes before them, low
byte first; so every frame with one wrong checksum byte, or both, is dropped. -/
def Obligations.ResidueDeterminesChecksum : Prop :=
  ∀ (bs : List Byte) (x y : Byte), crc16 (bs ++ [x, y]) = 0#16 ↔ x = lo (crc16 bs) ∧ y = hi (crc16 bs)

/-- R179: zero bytes have CRC 0 and pass CRC_VERIFY, five of them decode after the strip as a Beacon with sequence 0 and
no address; a leading zero changes nothing; the CRC is linear over bytewise XOR. -/
def Obligations.CrcLinear : Prop :=
  (∀ n, crc16 (List.replicate n 0#8) = 0#16) ∧
    (∀ (n : Nat) (s : State), s.running = true → 2 ≤ n →
      exec (.crcVerify (List.replicate n 0#8)) s = .next (s.replied [0#8])) ∧
    (∃ md, decodeHdr fcLayout (List.replicate 5 0#8) 3 = .ok md ∧ md.type = 0#3 ∧ md.seq = 0#8 ∧ md.dst = .none ∧
      md.src = .none) ∧
    (∀ bs, crc16 (0#8 :: bs) = crc16 bs) ∧
    ∀ xs ys : List Byte, xs.length = ys.length →
      crc16 (List.zipWith (fun a b => a ^^^ b) xs ys) = crc16 xs ^^^ crc16 ys

/-! ## Classifier -/

/-- R190 to R193: CLASSIFY answers Host (0), Broadcast (1) or OtherHost (2), by destination mode, the PAN gate, the
interface's own address before the broadcast address. -/
def Obligations.ClassifyAnswers : Prop :=
  ∀ (h : Handle) (srcMode : Mode) (s : State) (i : Iface), s.life = .live → s.ifaceOf h = some i →
    exec (.classify h .none srcMode) s = .next (s.replied [0#8, if srcMode = .none then 0#8 else 2#8]) ∧
      (∀ (p : Half) (a : LongAddr), exec (.classify h (.long p a) srcMode) s = .next (s.replied [0#8,
        if p ≠ i.pan ∧ p ≠ 0xFFFF#16 then 2#8 else if a = i.hwAddr then 0#8 else if a = i.bcastAddr then 1#8 else 2#8])) ∧
      ∀ p a : Half, exec (.classify h (.short p a) srcMode) s = .next (s.replied [0#8,
        if p ≠ i.pan ∧ p ≠ 0xFFFF#16 then 2#8 else if a = i.short then 0#8 else if a = 0xFFFF#16 then 1#8 else 2#8])

/-! ## Registry -/

/-- R212: IF_ADD's refusals in their order, and its one atomic step: the lowest-numbered slot is bound with the creation
values, its generation left as it is, DSN and BSN any drawn values, and the handle is answered. That a type above 1 answers
`BadOperand` in every life state is log 30's choice, and the scripted draws are the model's (log 6). -/
def Obligations.IfAddAnswers : Prop :=
  ∀ (type : Byte) (hw : LongAddr) (s : State),
    (1 < type.toNat → exec (.ifAdd type hw) s = .next (s.replied [0x0F#8, 0#8])) ∧
      (type.toNat ≤ 1 → s.life ≠ .live → exec (.ifAdd type hw) s = .next (s.replied [0x11#8, 0#8])) ∧
      (type.toNat ≤ 1 → s.life = .live → (∀ sl ∈ s.slots, sl.valid = true) →
        exec (.ifAdd type hw) s = .next (s.replied [6#8, 2#8])) ∧
      ∀ (n : Nat) (g : Byte), type.toNat ≤ 1 → s.life = .live → s.slots[n]? = some ⟨g, .free⟩ →
        (∀ m < n, ∃ sl, s.slots[m]? = some sl ∧ sl.valid = true) →
        ∃ (dsn bsn : Byte) (seqs : List Byte) (drawn : Nat),
          exec (.ifAdd type hw) s = .next { s with
            slots := s.slots.set n ⟨g, .bound { type := if type = 0#8 then .ordinary else .monitor, pan := 0xFFFF#16
                                                short := 0xFFFF#16, channel := s.cfg.chanNone, hwAddr := hw
                                                bcastAddr := ⟨0xFF#8, 0xFF#8, 0xFF#8, 0xFF#8, 0xFF#8, 0xFF#8, 0xFF#8, 0xFF#8⟩
                                                dsn := dsn, bsn := bsn, coord := false }⟩
            seqs := seqs, drawn := drawn, out := s.out ++ [.response s.ticket [0#8, BitVec.ofNat 8 n, g]] } ∧
          ∀ (x y : Byte) (zs : List Byte), s.seqs = x :: y :: zs → dsn = x ∧ bsn = y ∧ seqs = zs

/-- R220 to R222 (and R211, R33): IF_REMOVE refuses outside `Live` and with a stale handle; else it unlinks the slot in one
step, so that the old handle fails, and answers once no traversal holds the slot; a traversal that does makes it wait.
For every burst; the step that ends a wait answers the ticket of the command that waits. As a command it needs `Live`
(log 29). -/
def Obligations.IfRemoveAnswers : Prop :=
  (∀ (h : Handle) (s : State),
    (s.life ≠ .live → exec (.ifRemove h) s = .next (s.replied [0x11#8, 0#8])) ∧
      (s.life = .live → s.ifaceOf h = none → exec (.ifRemove h) s = .next (s.replied [0x0C#8, 0#8])) ∧
      ∀ i, s.life = .live → s.ifaceOf h = some i →
        let unlinked : State := { s with
          slots := s.slots.set h.slot.toNat ⟨genAfter s.cfg h.gen, .unlinked i⟩, host := .removing s.ticket h.slot.toNat }
        let removed : State := { s with
          slots := s.slots.set h.slot.toNat ⟨genAfter s.cfg h.gen, .free⟩, host := .idle
          out := s.out ++ [.response s.ticket [0#8]] }
        (s.burst = 0 ∨ s.holds h.slot.toNat = true → exec (.ifRemove h) s = .next unlinked) ∧
          (s.burst ≠ 0 → s.holds h.slot.toNat = false → exec (.ifRemove h) s = .next removed) ∧
          unlinked.ifaceOf h = none ∧ removed.ifaceOf h = none) ∧
    ∀ (j k n : Nat) (s : State), s.host = .removing k n →
      (s.holds n = true → hostMicro j s = s) ∧
        ∀ (g : Byte) (o : Occupant), s.holds n = false → s.slots[n]? = some ⟨g, o⟩ →
          hostMicro j s = { s with
            slots := s.slots.set n ⟨g, .free⟩, host := .idle, out := s.out ++ [.response k [0#8]] }

/-- R221, R222, R76: while a traversal holds the slot that is being removed, no step of any agent ends the wait, and the
slot keeps its last field values; only a reset ends it. -/
def Obligations.GracePeriodHolds : Prop :=
  ∀ (s t : State) (k n : Nat) (g : Byte) (i : Iface), s.host = .removing k n ∨ s.host = .unlinking k n →
    s.holds n = true → s.slots[n]? = some ⟨g, .unlinked i⟩ → s.turn.1 ≠ some .reset → step s = .next t →
    t.host = s.host ∧ t.slots[n]? = some ⟨g, .unlinked i⟩

/-- R33: with a handle that names no bound slot of its generation, every operation that takes a handle is refused with
`BadHandle` and changes nothing: in `Live` IF_REMOVE, CFG_WRITE of the interface registers it reaches, ENCODE_HDR, CLASSIFY
and, after its operand checks, TX_FRAME; in `Live` and `Draining` CFG_READ of the interface registers (R232). That
ENCODE_HDR tests the handle before its own operands is log 16's reading. -/
def Obligations.StaleHandleRefused : Prop :=
  ∀ (h : Handle) (s : State), (∀ i, s.slots[h.slot.toNat]? ≠ some ⟨h.gen, .bound i⟩) →
    let bad : Host.Outcome State Fault Refusal := .next (s.replied [0x0C#8, 0#8])
    (s.running = true →
      ∀ r ∈ [0x10#8, 0x11#8, 0x12#8, 0x13#8, 0x14#8, 0x15#8, 0x16#8, 0x17#8], exec (.cfgRead h r) s = bad) ∧
    (s.life = .live →
      exec (.ifRemove h) s = bad ∧
      (∀ r ∈ [0x10#8, 0x11#8, 0x12#8, 0x13#8], ∀ v, exec (.cfgWrite h r v) s = bad) ∧
      (∀ type sec ackreq seq dst src, exec (.encodeHdr h type sec ackreq seq dst src) s = bad) ∧
      (∀ dst srcMode, exec (.classify h dst srcMode) s = bad) ∧
      ∀ type ackreq dst src payload, dst.mode ≠ .none → type = 0#8 ∨ type = 1#8 ∨ type = 3#8 →
        exec (.txFrame h type false ackreq dst src payload) s = bad)

/-- R350, R228, R229: DEV_FREE with an interface bound enters `Fatal` with cause `NonEmptyFree`, emits one event with the
number of bound interfaces and answers `Fatal`, detail `NonEmptyFree`; nothing else changes. -/
def Obligations.DevFreeFatal : Prop :=
  ∀ (s : State), s.life = .live → (∃ sl ∈ s.slots, sl.valid = true) →
    exec .devFree s = .next { s with
      life := .fatal, fatalCause := .nonEmptyFree
      out := s.out ++ [.event .fatalNonEmptyFree (s.slots.countP Slot.valid), .response s.ticket [0x12#8, 1#8]] }

/-- R228: DEV_FREE with no interface bound drains and releases: it waits for the work queue and the WORK agent, then for
the traversals, then writes `Released` and answers. Outside `Live` it is refused. The number of atomic steps a burst gives
the HOST agent is the schedule's (log 2). The waits end in the HOST agent's later steps, DEV_UNREGISTER's drain by the same
ones, and the answer goes to the command that waits. -/
def Obligations.DevFreeReleases : Prop :=
  (∀ (s : State),
    (s.life ≠ .live → exec .devFree s = .next (s.replied [0x11#8, 0#8])) ∧
      (s.life = .live → (∀ sl ∈ s.slots, sl.valid = false) →
        (s.burst = 0 ∨ s.wq ≠ [] ∨ s.work ≠ .idle →
            exec .devFree s = .next { s with life := .draining, host := .draining s.ticket }) ∧
          (s.burst ≠ 0 → s.wq = [] → s.work = .idle → s.trav ≠ [] →
            exec .devFree s = .next { s with life := .draining, host := .settling s.ticket }) ∧
          (3 ≤ s.burst → s.wq = [] → s.work = .idle → s.trav = [] →
            exec .devFree s = .next { s with
              life := .released, host := .idle, out := s.out ++ [.response s.ticket [0#8]] }))) ∧
    ∀ (j k : Nat) (s : State),
      (s.host = .draining k →
        (s.wq = [] ∧ s.work = .idle → hostMicro j s = { s with host := .settling k }) ∧
          (s.wq ≠ [] ∨ s.work ≠ .idle → hostMicro j s = s)) ∧
      (s.host = .settling k →
        (s.trav = [] → hostMicro j s = { s with host := .releasing k }) ∧ (s.trav ≠ [] → hostMicro j s = s)) ∧
      (s.host = .releasing k → hostMicro j s = { s with
        life := .released, host := .idle, out := s.out ++ [.response k [0#8]] })

/-- R225, R226: DEV_UNREGISTER drains first; with no work and no traversal left it removes every bound interface, each
generation one more, then releases the device and answers once; nothing else changes. Outside `Live` it is refused. The
burst is the schedule's (log 2). In single steps: any bound slot may be the next one unlinked, none other is; its grace
period ends when no traversal holds it, with no answer; with none bound the drain begins. -/
def Obligations.DevUnregisterReleases : Prop :=
  (∀ (s : State),
    (s.life ≠ .live → exec .devUnregister s = .next (s.replied [0x11#8, 0#8])) ∧
      (s.life = .live → s.burst = 0 →
        exec .devUnregister s = .next { s with life := .draining, host := .unregistering s.ticket }) ∧
      (s.life = .live → s.wq = [] → s.work = .idle → s.trav = [] → 2 * s.slots.countP Slot.valid + 4 ≤ s.burst →
        exec .devUnregister s = .next { s with
          life := .released, slots := s.slots.map (Slot.removed s.cfg), host := .idle
          out := s.out ++ [.response s.ticket [0#8]] })) ∧
    ∀ (k : Nat) (s : State),
      (s.host = .unregistering k →
        let unlinked (n : Nat) (g : Byte) (i : Iface) : State := { s with
          slots := s.slots.set n ⟨genAfter s.cfg g, .unlinked i⟩, host := .unlinking k n }
        ((∀ sl ∈ s.slots, sl.valid = false) → ∀ j, hostMicro j s = { s with host := .draining k }) ∧
          ((∃ sl ∈ s.slots, sl.valid = true) → ∀ j, ∃ (n : Nat) (g : Byte) (i : Iface),
            s.slots[n]? = some ⟨g, .bound i⟩ ∧ hostMicro j s = unlinked n g i) ∧
          ∀ (n : Nat) (g : Byte) (i : Iface), s.slots[n]? = some ⟨g, .bound i⟩ →
            ∃ j, (s.life ≠ .fatal → Move.host j ∈ s.moves) ∧ hostMicro j s = unlinked n g i) ∧
      ∀ (j n : Nat), s.host = .unlinking k n →
        (s.holds n = true → hostMicro j s = s) ∧
          ∀ (g : Byte) (o : Occupant), s.holds n = false → s.slots[n]? = some ⟨g, o⟩ →
            hostMicro j s = { s with slots := s.slots.set n ⟨g, .free⟩, host := .unregistering k }

/-- R211, R227, R229, R251, R352: what is refused with `DeviceGone` outside `Live`, what besides that in `Released` and
`Fatal`, and that a frame from the radio is then discarded; nothing else changes. Refusals tested before the life state
(an IF_ADD type above 1, an unlisted or read-only register, TX_FRAME's operands) are other statements. The model's choices
in it: IF_REMOVE needs `Live` (log 29), ENCODE_HDR's gate comes before its operand refusals (log 16), and RX_FRAME is
refused even while a frame is in progress (log 35). -/
def Obligations.GoneCommandsRefused : Prop :=
  ∀ (s : State),
    let gone : Host.Outcome State Fault Refusal := .next (s.replied [0x11#8, 0#8])
    (s.life ≠ .live →
      exec .devUnregister s = gone ∧ exec .devFree s = gone ∧
        (∀ type hw, type.toNat ≤ 1 → exec (.ifAdd type hw) s = gone) ∧ (∀ h, exec (.ifRemove h) s = gone) ∧
        (∀ h type sec ackreq seq dst src, exec (.encodeHdr h type sec ackreq seq dst src) s = gone) ∧
        (∀ h dst srcMode, exec (.classify h dst srcMode) s = gone) ∧
        (∀ h v, ∀ r ∈ [0x10#8, 0x11#8, 0x12#8, 0x13#8], exec (.cfgWrite h r v) s = gone) ∧
        (∀ h type ackreq dst src payload, dst.mode ≠ .none → type = 0#8 ∨ type = 1#8 ∨ type = 3#8 →
          exec (.txFrame h type false ackreq dst src payload) s = gone)) ∧
      (s.life = .released ∨ s.life = .fatal →
        (∀ bs, exec (.decodeHdr bs) s = gone ∧ exec (.crcCompute bs) s = gone ∧ exec (.crcAppend bs) s = gone ∧
          exec (.crcVerify bs) s = gone ∧ exec (.rxFrame bs) s = gone) ∧
        (∀ seq, exec (.buildAck seq) s = gone) ∧
        (∀ h, ∀ r ∈ [0x10#8, 0x11#8, 0x12#8, 0x13#8, 0x14#8, 0x15#8, 0x16#8, 0x17#8], exec (.cfgRead h r) s = gone) ∧
        ∀ frame queue, s.phyIn = frame :: queue → perform .phy s = .next { s with phyIn := queue })

/-- R229, R350, R380: in `Fatal` a step that is no reset changes no state of the block at all: only inputs are taken, answers
are given and the schedule moves on; and no such step leaves `Released`. That operations in progress stand still in `Fatal`
is log 22's reading of R229. -/
def Obligations.FatalFrozen : Prop :=
  ∀ (s t : State), step s = .next t → s.turn.1 ≠ some .reset →
    (s.life = .fatal → t = { s with
      cmdIn := t.cmdIn, phyIn := t.phyIn, out := t.out, ticket := t.ticket, sched := t.sched, burst := t.burst
      drawn := t.drawn }) ∧
    (s.life = .released → t.life = .released ∧ t.fatalCause = s.fatalCause)

/-- R234, R235, R343: CFG_WRITE's refusals in their order, and the write: one field of one interface, and a
`FilterUpdate(h)` only where the radio filters addresses, the register is IF_PAN or IF_SHORT and none waits already. That
`BadRegister` and `ReadOnly` are answered in every life state is log 30's choice. -/
def Obligations.CfgWriteEffect : Prop :=
  ∀ (h : Handle) (r : Byte) (v : Value) (s : State),
    let writable := r ∈ [0x10#8, 0x11#8, 0x12#8, 0x13#8]
    let readable := r ∈ [0x00#8, 0x01#8, 0x02#8, 0x03#8, 0x04#8, 0x05#8, 0x06#8, 0x08#8, 0x09#8, 0x14#8, 0x15#8, 0x16#8,
      0x17#8]
    let wanted := s.cfg.addrFilter = true ∧ (r = 0x11#8 ∨ r = 0x12#8) ∧ WorkItem.filterUpdate h ∉ s.wq
    (¬ writable → ¬ readable → exec (.cfgWrite h r v) s = .next (s.replied [0x0D#8, 0#8])) ∧
      (readable → exec (.cfgWrite h r v) s = .next (s.replied [0x0E#8, 0#8])) ∧
      (writable → s.life ≠ .live → exec (.cfgWrite h r v) s = .next (s.replied [0x11#8, 0#8])) ∧
      (writable → s.life = .live → s.ifaceOf h = none → exec (.cfgWrite h r v) s = .next (s.replied [0x0C#8, 0#8])) ∧
      ∀ i, s.life = .live → s.ifaceOf h = some i →
        (writable → wanted → s.cfg.wqDepth ≤ s.wq.length → exec (.cfgWrite h r v) s = .next (s.replied [6#8, 3#8])) ∧
        (¬ (wanted ∧ s.cfg.wqDepth ≤ s.wq.length) →
          let wrote (i' : Iface) : Prop := exec (.cfgWrite h r v) s = .next { s with
            slots := s.slots.set h.slot.toNat ⟨h.gen, .bound i'⟩
            wq := if wanted then s.wq ++ [.filterUpdate h] else s.wq
            out := s.out ++ [.response s.ticket [0#8]] }
          (r = 0x10#8 → wrote { i with coord := v.getLsbD 2 }) ∧ (r = 0x11#8 → wrote { i with pan := v.setWidth 16 }) ∧
            (r = 0x12#8 → wrote { i with short := v.setWidth 16 }) ∧
            (r = 0x13#8 → wrote { i with channel := v.setWidth 8 }))

/-- R46, R232: the register map bit by bit, and CFG_READ's refusals; a read changes nothing. The two count registers show
the low 8 bits of their count (log 25), the two drop counters are shown whole whatever their width (log 37), and an unlisted
register is `BadRegister` in every life state (log 30). -/
def Obligations.CfgReadValues : Prop :=
  ∀ (h : Handle) (s : State),
    let reads (r : Byte) (n : Nat) : Prop := exec (.cfgRead h r) s = .next (s.replied (0#8 :: valueBytes (BitVec.ofNat 64 n)))
    (∀ r : Byte, r ∉ [0x00#8, 0x01#8, 0x02#8, 0x03#8, 0x04#8, 0x05#8, 0x06#8, 0x08#8, 0x09#8, 0x10#8, 0x11#8, 0x12#8,
        0x13#8, 0x14#8, 0x15#8, 0x16#8, 0x17#8] → exec (.cfgRead h r) s = .next (s.replied [0x0D#8, 0#8])) ∧
      reads 0x00#8 (s.cfg.omitsChecksum.toNat + 2 * s.cfg.hwAck.toNat + 4 * s.cfg.addrFilter.toNat +
        8 * (if s.cfg.ackPolicy = .synthesizeAck then 1 else 0) + 16 * s.cfg.matchMonitor.toNat) ∧
      reads 0x01#8 ((if s.life = .live then 0 else if s.life = .draining then 1 else if s.life = .released then 2 else 3) +
        4 * (if s.fatalCause = .none then 0 else if s.fatalCause = .nonEmptyFree then 1 else 2) +
        16 * (if s.work = .idle then 0 else 1)) ∧
      reads 0x02#8 s.curChannel.toNat ∧
      (∀ f, s.filter = some f → reads 0x03#8 (f.pan.toNat + 2 ^ 16 * f.short.toNat + 2 ^ 32) ∧
        reads 0x04#8 (longNumber f.long)) ∧
      (s.filter = none → reads 0x03#8 0 ∧ reads 0x04#8 0) ∧
      reads 0x05#8 (s.slots.countP Slot.valid % 256) ∧ reads 0x06#8 (s.wq.length % 256) ∧
      reads 0x08#8 s.cntBadcsum ∧ reads 0x09#8 s.cntMalformed ∧
      ∀ i, s.running = true → s.ifaceOf h = some i →
        reads 0x10#8 (1 + 2 * (if i.type = .monitor then 1 else 0) + 4 * i.coord.toNat + 256 * h.gen.toNat) ∧
          reads 0x11#8 i.pan.toNat ∧ reads 0x12#8 i.short.toNat ∧ reads 0x13#8 i.channel.toNat ∧
          reads 0x14#8 (longNumber i.hwAddr) ∧ reads 0x15#8 (longNumber i.bcastAddr) ∧ reads 0x16#8 i.dsn.toNat ∧
          reads 0x17#8 i.bsn.toNat

/-! ## Receive -/

/-- R252: a frame that is too short or has a wrong checksum ends in `Dropped(BadChecksum)`: the counter is incremented,
no event is emitted, nothing reaches a collaborator; an injected frame answers 1. From a burst of 2 (log 2). -/
def Obligations.BadChecksumDropped : Prop :=
  ∀ (bytes : List Byte) (s : State), s.running = true → s.cfg.omitsChecksum = false →
    bytes.length < 2 ∨ crc16 bytes ≠ 0#16 → 2 ≤ s.burst →
    exec (.rxFrame bytes) s = .next { s with
        cntBadcsum := (s.cntBadcsum + 1) % 2 ^ s.cfg.cntWidth, rx := none, out := s.out ++ [.response s.ticket [0#8, 1#8]] } ∧
      ∀ queue, bytes.length ≤ 127 → s.phyIn = bytes :: queue →
        perform .phy s = .next { s with phyIn := queue, cntBadcsum := (s.cntBadcsum + 1) % 2 ^ s.cfg.cntWidth, rx := none }

/-- R255, R256: a frame DECODE_HDR rejects, on its stripped length, ends in `Dropped(Malformed)`: a malformed one is
counted without event, a security-enabled one gives one event without count; an injected frame answers 2. From a burst of
3 (log 2). -/
def Obligations.MalformedDropped : Prop :=
  ∀ (bytes : List Byte) (s : State) (e : HdrError) (c : Nat), s.running = true → s.passesChecksum bytes →
    decodeHdr fcLayout bytes (s.strippedLen bytes) = .error (e, c) → 3 ≤ s.burst →
    exec (.rxFrame bytes) s = .next { s with
        cntMalformed := if e = .unsupportedFeature then s.cntMalformed else (s.cntMalformed + 1) % 2 ^ s.cfg.cntWidth, rx := none
        out := s.out ++ (if e = .unsupportedFeature then [.event .securityFrameDropped 0] else []) ++
          [.response s.ticket [0#8, 2#8]] } ∧
      ∀ queue, bytes.length ≤ 127 → s.phyIn = bytes :: queue → perform .phy s = .next { s with
        phyIn := queue, rx := none
        cntMalformed := if e = .unsupportedFeature then s.cntMalformed else (s.cntMalformed + 1) % 2 ^ s.cfg.cntWidth
        out := s.out ++ (if e = .unsupportedFeature then [.event .securityFrameDropped 0] else []) }

/-- R263, R261: a decoded frame that no bound interface matches ends in `Dropped(NoInterface)`: no count, no event; an
injected frame answers 4. From a burst that visits every slot (log 2). -/
def Obligations.NoInterfaceDropped : Prop :=
  ∀ (bytes : List Byte) (s : State) (md : Md), s.running = true → s.passesChecksum bytes →
    decodeHdr fcLayout bytes (s.strippedLen bytes) = .ok md →
    (∀ (n : Nat) (g : Byte) (i : Iface), s.slots[n]? = some ⟨g, .bound i⟩ →
      s.cfg.matchMonitor = false ∧ i.type = .monitor) → s.slots.length + 4 ≤ s.burst →
    exec (.rxFrame bytes) s = .next { s with rx := none, out := s.out ++ [.response s.ticket [0#8, 4#8]] } ∧
      ∀ queue, bytes.length ≤ 127 → s.phyIn = bytes :: queue → perform .phy s = .next { s with phyIn := queue, rx := none }

/-- R267, R264, R265, R270, R279, R250: a Data frame, injected or from the radio, that passes checksum and decode, with no clone failure and no other agent
in between, is enqueued exactly once for each matching interface, each copy with that interface's own scope; the last one
gets the original buffer, the others a clone of the stripped length; the frame's terminal state is `Done`. The slots are
visited in rising order because nothing in this one burst reorders them (logs 2, 8). Whether a clone can be made is drawn
(log 7), and only the original keeps its checksum bytes (log 36). R252 to R257, R261, R263, R280, R113: the steps of the
receive state machine one by one, whatever other agents did in between: checksum, decode, a visit, the end of a handle, the
end of the frame, which an injected frame answers under its own command's ticket (its step is log 21's). -/
def Obligations.FanOutDeliversOnce : Prop :=
  (∀ (bytes : List Byte) (s : State) (md : Md) (cs : List Bool), s.running = true → s.passesChecksum bytes →
    decodeHdr fcLayout bytes (s.strippedLen bytes) = .ok md → md.type = 1#3 →
    s.cfg.hwAck = true ∨ md.ackreq = false → s.matching ≠ [] →
    s.clones = List.replicate (s.matching.length - 1) true ++ cs → 5 + 9 * s.slots.length ≤ s.burst →
    ∃ delivered : List PortOut,
      exec (.rxFrame bytes) s = .next { s with
        rx := none, clones := cs, out := s.out ++ delivered ++ [.response s.ticket [0#8, 0#8]] } ∧
      (∀ queue, bytes.length ≤ 127 → s.phyIn = bytes :: queue → perform .phy s = .next { s with
        phyIn := queue, rx := none, clones := cs, out := s.out ++ delivered }) ∧
      delivered.length = s.matching.length ∧
      ∀ (k n : Nat) (g : Byte) (i : Iface), s.matching[k]? = some n → s.slots[n]? = some ⟨g, .bound i⟩ →
        delivered[k]? = some (.enqueue n
          { bytes := if k + 1 = s.matching.length then bytes else bytes.take (s.strippedLen bytes)
            len := s.strippedLen bytes, md := { md with scope := some (scopeOf md.dst md.src.mode i) } })) ∧
    ∀ (s : State) (c : RxCtx), s.rx = some c →
      let goesOn (c' : RxCtx) : Prop := rxMicro s = .next { s with rx := some c' }
      let ends (code : Byte) : Prop :=
        (c.source = .radio → rxMicro s = .next { s with rx := none }) ∧
          ∀ k, c.source = .command k → rxMicro s = .next { s with rx := none, out := s.out ++ [.response k [0#8, code]] }
      let valid := 2 ≤ (c.buf.take c.len).length ∧ crc16 (c.buf.take c.len) = 0#16
      (c.st = .checksumCheck →
        (s.cfg.omitsChecksum = true → goesOn { c with st := .decode }) ∧
          (s.cfg.omitsChecksum = false → valid → goesOn { c with len := c.len - 2, st := .decode }) ∧
          (s.cfg.omitsChecksum = false → ¬ valid → rxMicro s = .next { s with
            cntBadcsum := (s.cntBadcsum + 1) % 2 ^ s.cfg.cntWidth, rx := some { c with st := .dropped .badChecksum } })) ∧
      (c.st = .decode →
        (∀ md, decodeHdr fcLayout c.buf c.len = .ok md →
          goesOn { c with cur := md.hdrLen, st := .fanout md (List.range s.slots.length) [] }) ∧
          ∀ e cur, decodeHdr fcLayout c.buf c.len = .error (e, cur) → rxMicro s = .next { s with
            cntMalformed := if e = .unsupportedFeature then s.cntMalformed else (s.cntMalformed + 1) % 2 ^ s.cfg.cntWidth
            rx := some { c with cur := cur, st := .dropped (.malformed e) }
            out := s.out ++ (if e = .unsupportedFeature then [.event .securityFrameDropped 0] else []) }) ∧
      (∀ (md : Md) (n : Nat) (todo taken : List Nat), c.st = .fanout md (n :: todo) taken →
        let matched := ∃ g i, s.slots[n]? = some ⟨g, .bound i⟩ ∧ (s.cfg.matchMonitor = true ∨ i.type = .ordinary)
        (matched → goesOn { c with st := .fanout md todo (taken ++ [n]) }) ∧
          (¬ matched → goesOn { c with st := .fanout md todo taken })) ∧
      (∀ md, c.st = .fanout md [] [] → goesOn { c with st := .dropped .noInterface }) ∧
      (∀ (h : HandleCtx) (rest : List HandleCtx) (o : CopyOutcome), c.st = .handling (h :: rest) → h.stage = .finish o →
        goesOn { c with st := .handling rest, outcomes := c.outcomes ++ [(h.slot, o)] }) ∧
      (c.st = .handling [] → goesOn { c with st := .done }) ∧ (c.st = .done → ends 0#8) ∧
      (c.st = .dropped .badChecksum → ends 1#8) ∧ (∀ e, c.st = .dropped (.malformed e) → ends 2#8) ∧
      (c.st = .dropped .noInterface → ends 4#8)

/-- R264, R265, R266, R43: when the fan-out is over, every slot taken but the last gets a clone still to be made, the last
one the original with `RXC.MD` itself; making a clone succeeds or fails by free choice (log 7); a success gives a buffer of
its own with the same bytes below `len` and an unset scope, a failure skips that copy with no count and no event. -/
def Obligations.ClonesAndOriginal : Prop :=
  (∀ (s : State) (c : RxCtx) (md : Md) (init : List Nat) (last : Nat), s.rx = some c →
      c.st = .fanout md [] (init ++ [last]) →
      let c' : RxCtx := { c with
        st := .handling (init.map (fun n => ⟨n, false, ⟨c.buf, c.len, md⟩, .clone⟩) ++
          [⟨last, true, ⟨c.buf, c.len, md⟩, .classify⟩])
        outcomes := [] }
      rxMicro s = .next { s with rx := some c' } ∧ c.md = some md ∧ c'.md = some md) ∧
    ∀ (s : State) (c : RxCtx) (h : HandleCtx) (rest : List HandleCtx) (ok : Bool) (more : List Bool), s.rx = some c →
      c.st = .handling (h :: rest) → h.stage = .clone → s.clones = ok :: more →
      rxMicro s = .next { s with
        clones := more
        rx := some (if ok = true then { c with st := .handling ({ h with
            copy := ⟨h.copy.bytes.take h.copy.len, h.copy.len, { h.copy.md with scope := none }⟩
            stage := .classify } :: rest) }
          else { c with st := .handling rest, outcomes := c.outcomes ++ [(h.slot, .cloneFailed)] }) }

/-- R270, R271, R43: a handle's classification writes the scope of its own copy from the fields of its own slot, bound or
still held after its unlink. The original's metadata are `RXC.MD`, which then has the scope too; a clone's leave `RXC.MD` as
it is. No other copy and nothing of the bank changes. -/
def Obligations.ScopePerCopy : Prop :=
  ∀ (s : State) (c : RxCtx) (h : HandleCtx) (rest : List HandleCtx) (g : Byte) (i : Iface), s.rx = some c →
    c.st = .handling (h :: rest) → h.stage = .classify →
    s.slots[h.slot]? = some ⟨g, .bound i⟩ ∨ s.slots[h.slot]? = some ⟨g, .unlinked i⟩ →
    let md : Md := { h.copy.md with scope := some (scopeOf h.copy.md.dst h.copy.md.src.mode i) }
    let c' : RxCtx := { c with
      st := .handling ({ h with copy := { h.copy with md := md }, stage := .ackCheck } :: rest) }
    rxMicro s = .next { s with rx := some c' } ∧ c'.md = if h.original = true then some md else c.md

/-- R272, R273: the acknowledgement check emits one event exactly when the scope is Host, the frame asked for an
acknowledgement and the radio sends none, and goes on to synthesis only under `SynthesizeAck`; synthesis reads the current
channel in one step and in a later one queues `02 00 seq`, with its checksum unless the radio adds it, for that channel,
or emits `AckNotSent` when no channel was set or the queue is full. Each ends with the dispatch next. -/
def Obligations.AckCheckAndSynthesis : Prop :=
  ∀ (s : State) (c : RxCtx) (h : HandleCtx) (rest : List HandleCtx), s.rx = some c → c.st = .handling (h :: rest) →
    let goesOn (stage : Stage) : Option RxCtx := some { c with st := .handling ({ h with stage := stage } :: rest) }
    let due := h.copy.md.scope = some .host ∧ h.copy.md.ackreq = true ∧ s.cfg.hwAck = false
    (h.stage = .ackCheck →
      (due → rxMicro s = .next { s with
        rx := goesOn (if s.cfg.ackPolicy = .synthesizeAck then .synthRead else .dispatch)
        out := s.out ++ [.event .ackWithoutHwAck h.copy.md.seq.toNat] }) ∧
      (¬ due → rxMicro s = .next { s with rx := goesOn .dispatch })) ∧
    (h.stage = .synthRead → rxMicro s = .next { s with rx := goesOn (.synthQueue s.curChannel) }) ∧
    ∀ channel, h.stage = .synthQueue channel →
      (channel = s.cfg.chanNone ∨ s.cfg.wqDepth ≤ s.wq.length → rxMicro s = .next { s with
        rx := goesOn .dispatch, out := s.out ++ [.event .ackNotSent h.copy.md.seq.toNat] }) ∧
      (channel ≠ s.cfg.chanNone → s.wq.length < s.cfg.wqDepth → rxMicro s = .next { s with
        rx := goesOn .dispatch
        wq := s.wq ++ [.xmit ⟨[0x02#8, 0x00#8, h.copy.md.seq] ++ checksumBytes s.cfg [0x02#8, 0x00#8, h.copy.md.seq],
          channel, .ackSynth⟩] })

/-- R275, R277, R279, R280: the patterns that end with their first step. A Data copy is enqueued with its interface, an
Ack is consumed, an unrecognized type gives one event with the type; the outcome is recorded and the slot released. With
no burst only the first atomic step is taken; with no copy at its dispatch there is nothing to do (log 19). -/
def Obligations.DispatchInOneStep : Prop :=
  ∀ (f : FrameCtl) (tt : BitVec 2) (s : State),
    (s.atDispatch = none → exec (.frameBeacon f) s = .next s ∧ exec (.frameData f) s = .next s ∧
      exec (.frameAck f) s = .next s ∧ exec (.frameMaccmd f) s = .next s ∧ exec (.frameUnrecognized tt f) s = .next s) ∧
    ∀ (c : RxCtx) (h : HandleCtx) (rest : List HandleCtx), s.rx = some c → c.st = .handling (h :: rest) →
      h.stage = .dispatch →
      let ended (o : CopyOutcome) (ports : List PortOut) : Host.Outcome State Fault Refusal := .next { s with
        rx := some (if s.burst = 0 then { c with st := .handling ({ h with stage := .finish o } :: rest) }
          else { c with st := .handling rest, outcomes := c.outcomes ++ [(h.slot, o)] })
        out := s.out ++ ports }
      s.burst ≤ 1 →
        exec (.frameData f) s = ended (.delivered none) [.enqueue h.slot h.copy] ∧
          exec (.frameAck f) s = ended .consumed [] ∧
          exec (.frameUnrecognized tt f) s = ended .unsupportedFrameType [.event .unsupportedFrameType (4 + tt.toNat)]

/-- R275, R276, R278, R280: the patterns that call a collaborator. A Beacon copy goes to the parser, whose address, if it
answers one, goes to the beacon cache, and the outcome is success either way; a MacCommand copy goes to the handler, whose
result is the outcome; then the slot is released. With no burst the call alone is made (log 2). A pattern acts on the copy
that stands at its dispatch and reads neither its own fields nor the copy's type (log 19). An answer that comes in a later
step has the same effect then. -/
def Obligations.DispatchWithAnswer : Prop :=
  ∀ (f : FrameCtl) (s : State) (c : RxCtx) (h : HandleCtx) (rest : List HandleCtx), s.rx = some c →
    c.st = .handling (h :: rest) →
    let goesOn (o : CopyOutcome) : Option RxCtx := some { c with st := .handling ({ h with stage := .finish o } :: rest) }
    (h.stage = .dispatch →
      (s.burst = 0 →
        exec (.frameBeacon f) s = .next { s with
            rx := some { c with st := .handling ({ h with stage := .parsing } :: rest) }, out := s.out ++ [.parse h.copy] } ∧
          exec (.frameMaccmd f) s = .next { s with
            rx := some { c with st := .handling ({ h with stage := .commanding } :: rest) }
            out := s.out ++ [.handle h.slot h.copy] }) ∧
      (s.burst = 2 →
        (∀ p ps, s.parses = some p :: ps → exec (.frameBeacon f) s = .next { s with
            rx := some { c with st := .handling rest, outcomes := c.outcomes ++ [(h.slot, .delivered none)] }
            parses := ps, out := s.out ++ [.parse h.copy, .record p.addr] }) ∧
          (∀ ps, s.parses = none :: ps → exec (.frameBeacon f) s = .next { s with
            rx := some { c with st := .handling rest, outcomes := c.outcomes ++ [(h.slot, .delivered none)] }
            parses := ps, out := s.out ++ [.parse h.copy] }) ∧
          ∀ r rs, s.handled = r :: rs → exec (.frameMaccmd f) s = .next { s with
            rx := some { c with st := .handling rest, outcomes := c.outcomes ++ [(h.slot, .delivered (some r))] }
            handled := rs, out := s.out ++ [.handle h.slot h.copy] })) ∧
    (h.stage = .parsing →
      (∀ p ps, s.parses = some p :: ps → rxMicro s = .next { s with
        rx := goesOn (.delivered none), parses := ps, out := s.out ++ [.record p.addr] }) ∧
        ∀ ps, s.parses = none :: ps → rxMicro s = .next { s with rx := goesOn (.delivered none), parses := ps }) ∧
    (h.stage = .commanding → ∀ r rs, s.handled = r :: rs → rxMicro s = .next { s with
      rx := goesOn (.delivered (some r)), handled := rs })

/-! ## Transmit -/

/-- R300, R303, R304, R306, R307, R308, R310: TX_FRAME of an accepted call takes one sequence number, builds header,
payload and checksum, and queues the frame for the interface's channel under the call's ticket; a full queue is
`DeviceBusy` with the number consumed. With no burst only the snapshot is taken: the call holds the interface's fields and
its operands. To its end from a burst of 3 (log 2). -/
def Obligations.TxFrameQueues : Prop :=
  ∀ (h : Handle) (type : Byte) (ackreq : Bool) (dst : Address) (src : Option Address) (payload : List Byte) (s : State)
    (i : Iface), s.life = .live → s.ifaceOf h = some i → i.channel ≠ s.cfg.chanNone → dst.mode ≠ .none →
    type = 0#8 ∨ type = 1#8 ∨ type = 3#8 → (∀ c ∈ s.tx, c.k ≠ s.ticket) →
    let seq := if type = 0#8 then i.bsn else i.dsn
    let body := headerBytes fcLayout (type.setWidth 3) ackreq dst (sourceFrom src i) seq ++ payload
    let frame := body ++ checksumBytes s.cfg body
    let numbered := s.slots.set h.slot.toNat ⟨h.gen, .bound (i.taken type)⟩
    let opened (c : TxCtx) : Prop := c.k = s.ticket ∧ c.h = h ∧ c.type = type.setWidth 3 ∧ c.ackreq = ackreq ∧
      c.dst = dst ∧ c.src = sourceFrom src i ∧ c.payload = payload ∧ c.snap = ⟨i.pan, i.short, i.hwAddr, i.channel⟩
    frame.length ≤ 127 →
    (s.burst = 0 → ∃ c : TxCtx, opened c ∧ c.stage = .snapped ∧
      exec (.txFrame h type false ackreq dst src payload) s = .next { s with tx := s.tx ++ [c] }) ∧
    (3 ≤ s.burst → s.wq.length < s.cfg.wqDepth → ∃ c : TxCtx, opened c ∧ c.stage = .waiting ∧
      exec (.txFrame h type false ackreq dst src payload) s = .next { s with
        slots := numbered, wq := s.wq ++ [.xmit ⟨frame, i.channel, .txCall s.ticket⟩], tx := s.tx ++ [c] }) ∧
    (3 ≤ s.burst → s.cfg.wqDepth ≤ s.wq.length →
      exec (.txFrame h type false ackreq dst src payload) s = .next { s with
        slots := numbered, out := s.out ++ [.response s.ticket [7#8, 0#8]] })

/-- R301, R302, R307, R343, R393: TX_FRAME's refusals before a sequence number is taken, in their order; each answers and
changes nothing. Type bytes above 7 are refused like 4 to 7 (log 15), and the operand refusals come before the life gate in
`Released` and `Fatal` too (log 30). -/
def Obligations.TxRefusalsConsumeNothing : Prop :=
  ∀ (h : Handle) (type : Byte) (sec ackreq : Bool) (dst : Address) (src : Option Address) (payload : List Byte)
    (s : State),
    let refused (code detail : Byte) : Prop :=
      exec (.txFrame h type sec ackreq dst src payload) s = .next (s.replied [code, detail])
    (dst.mode = .none → refused 9#8 1#8) ∧
      (dst.mode ≠ .none → sec = true → refused 3#8 0#8) ∧
      (dst.mode ≠ .none → sec = false → type = 2#8 → refused 9#8 2#8) ∧
      (dst.mode ≠ .none → sec = false → 4 ≤ type.toNat → refused 9#8 3#8) ∧
      (dst.mode ≠ .none → sec = false → type = 0#8 ∨ type = 1#8 ∨ type = 3#8 →
        (s.life ≠ .live → refused 0x11#8 0#8) ∧
        (s.life = .live → s.ifaceOf h = none → refused 0x0C#8 0#8) ∧
        ∀ i, s.life = .live → s.ifaceOf h = some i →
          (i.channel = s.cfg.chanNone → refused 0x0B#8 0#8) ∧
          (i.channel ≠ s.cfg.chanNone →
            127 < (headerBytes fcLayout (type.setWidth 3) ackreq dst (sourceFrom src i) 0#8).length + payload.length +
              (if s.cfg.omitsChecksum = true then 0 else 2) → refused 0x0A#8 0#8))

/-- R304, R77: the fetch-and-increment of a call in one atomic step: `bsn` for a beacon, `dsn` otherwise, the value before
the increment, modulo 256, the other counter untouched; a handle that went stale consumes nothing and answers
`BadHandle`. -/
def Obligations.SequenceFetchIncrement : Prop :=
  ∀ (s : State) (k : Nat) (c : TxCtx), s.txCall k = some c → c.stage = .snapped →
    (∀ i, s.ifaceOf c.h = some i → txMicro k s = { s with
      slots := s.slots.set c.h.slot.toNat ⟨c.h.gen, .bound (if c.type = 0#3 then { i with bsn := i.bsn + 1#8 }
        else { i with dsn := i.dsn + 1#8 })⟩
      tx := s.tx.map (fun d =>
        if d.k = k then { d with stage := .numbered (if c.type = 0#3 then i.bsn else i.dsn) } else d) }) ∧
    (s.ifaceOf c.h = none → txMicro k s = { s with
      tx := s.tx.filter (fun d => d.k != k), out := s.out ++ [.response k [0x0C#8, 0#8]] })

/-- R306, R308, R310, R303, R398 (b), R393: steps 5 to 7 of a call in progress, whatever other agents have done since its
snapshot. The frame is built from what the call holds: header, payload, checksum, in the transmit buffer from
`23 - hdr_len`. It is queued for the channel of the snapshot, the interface's later fields play no part; a device no longer
`Live` answers `DeviceGone`, a full queue `DeviceBusy`, and the number taken is not given back. -/
def Obligations.CallInFlight : Prop :=
  ∀ (s : State) (k : Nat) (c : TxCtx), s.txCall k = some c →
    (∀ seq, c.stage = .numbered seq →
      let hdr := headerBytes fcLayout c.type c.ackreq c.dst c.src seq
      let sum := checksumBytes s.cfg (hdr ++ c.payload)
      ∃ t : TxBuf, t.start = 23 - hdr.length ∧ t.stop = 23 + c.payload.length + sum.length ∧
        t.frame = hdr ++ c.payload ++ sum ∧
        txMicro k s = { s with tx := s.tx.map (fun d => if d.k = k then { d with txc := t, stage := .built } else d) }) ∧
    (c.stage = .built →
      let refused (code : Byte) : State := { s with
        tx := s.tx.filter (fun d => d.k != k), out := s.out ++ [.response k [code, 0#8]] }
      (s.life ≠ .live → txMicro k s = refused 0x11#8) ∧
        (s.life = .live → s.cfg.wqDepth ≤ s.wq.length → txMicro k s = refused 7#8) ∧
        (s.life = .live → s.wq.length < s.cfg.wqDepth → txMicro k s = { s with
          wq := s.wq ++ [.xmit ⟨c.txc.frame, c.snap.channel, .txCall k⟩]
          tx := s.tx.map (fun d => if d.k = k then { d with stage := .waiting } else d) }))

/-- R311, R318: a TX_FRAME call waits until its item has been executed, then answers the item's result: `Ok`, `DeviceBusy`
or `ReconfigurationFailure`; the call is over and no copy of the frame is kept. -/
def Obligations.CompletionAnswered : Prop :=
  ∀ (s : State) (k : Nat) (c : TxCtx), s.txCall k = some c →
    (c.stage = .waiting → txMicro k s = s) ∧
    ∀ (r : XmitResult) (bytes : List Byte), c.stage = .completed r →
      (r, bytes) ∈ [(XmitResult.ok, [0#8]), (.deviceBusy, [7#8, 0#8]), (.reconfigurationFailure, [8#8, 0#8])] →
      txMicro k s = { s with tx := s.tx.filter (fun d => d.k != k), out := s.out ++ [.response k bytes] }

/-- R314 to R318, R24: the WORK agent takes any queued `Xmit`. On the device's channel the frame is handed to the radio at
once; on another one the channel is set first, and `DEV.cur_channel` is written only after the radio accepted it; when it
refuses, the frame is not sent, the channel and the other items stay. The result goes to the call that queued the item, or
to an event for an acknowledgement that was not sent. First in one burst (log 2), then each of its steps and transactions by
itself, whatever other agents did in between. -/
def Obligations.XmitExecution : Prop :=
  (∀ (s : State) (j : Nat) (x : Xmit), s.running = true → s.work = .idle → s.wq[j]? = some (.xmit x) →
    (∀ r rs, s.curChannel = x.channel → s.transmits = r :: rs → s.burst = 5 →
      perform (.work j) s = .next { s with
        wq := s.wq.eraseIdx j, transmits := rs, tx := x.origin.informed s.tx (resultOf r)
        out := s.out ++ [.transmit x.frame x.channel] ++ x.notice (resultOf r) }) ∧
    (∀ r rs cs, s.curChannel ≠ x.channel → s.setChans = .ok :: cs → s.transmits = r :: rs → s.burst = 8 →
      perform (.work j) s = .next { s with
        curChannel := x.channel, wq := s.wq.eraseIdx j, setChans := cs, transmits := rs
        tx := x.origin.informed s.tx (resultOf r)
        out := s.out ++ [.setChannel x.channel, .transmit x.frame x.channel] ++ x.notice (resultOf r) }) ∧
    (∀ cs, s.curChannel ≠ x.channel → s.setChans = .fail :: cs → s.burst = 5 →
      perform (.work j) s = .next { s with
        wq := s.wq.eraseIdx j, setChans := cs, tx := x.origin.informed s.tx .reconfigurationFailure
        out := s.out ++ [.setChannel x.channel] ++ x.notice .reconfigurationFailure })) ∧
    ∀ (s : State) (j : Nat) (x : Xmit),
      (∀ w, s.work = .idle → s.running = true → s.wq[j]? = some w →
        workMicro j s = { s with wq := s.wq.eraseIdx j, work := .start w }) ∧
      (s.work = .start (.xmit x) → workMicro j s = { s with
        work := if s.curChannel = x.channel then .send x else .tune x }) ∧
      (s.work = .tune x → workMicro j s = { s with work := .tuning x, out := s.out ++ [.setChannel x.channel] }) ∧
      (∀ a as, s.work = .tuning x → s.setChans = a :: as → workMicro j s = { s with
        setChans := as, work := if a = .ok then .tuned x else .report x .reconfigurationFailure }) ∧
      (s.work = .tuned x → workMicro j s = { s with curChannel := x.channel, work := .send x }) ∧
      (s.work = .send x → workMicro j s = { s with
        work := .sending x, out := s.out ++ [.transmit x.frame x.channel] }) ∧
      (∀ r rs, s.work = .sending x → s.transmits = r :: rs → workMicro j s = { s with
        transmits := rs, work := .report x (resultOf r) }) ∧
      (∀ r, s.work = .report x r → workMicro j s = { s with
        work := .finishing, tx := x.origin.informed s.tx r, out := s.out ++ x.notice r }) ∧
      (s.work = .finishing → workMicro j s = { s with work := .idle })

/-- R320, R223, R25: executing `FilterUpdate(h)` reads the interface, issues one `filter_update` with its addresses and
then writes `DEV.filter`; with a stale handle it does nothing. First in one burst (log 2), then step by step, whatever other
agents did in between. -/
def Obligations.FilterUpdateExecution : Prop :=
  (∀ (s : State) (j : Nat) (h : Handle), s.running = true → s.work = .idle → s.wq[j]? = some (.filterUpdate h) →
    (∀ i, s.ifaceOf h = some i → s.burst = 4 → perform (.work j) s = .next { s with
      wq := s.wq.eraseIdx j, filter := some ⟨i.pan, i.short, i.hwAddr⟩
      out := s.out ++ [.filterUpdate i.pan i.short i.hwAddr] }) ∧
    (s.ifaceOf h = none → s.burst = 2 → perform (.work j) s = .next { s with wq := s.wq.eraseIdx j })) ∧
    ∀ (s : State) (j : Nat),
      (∀ h, s.work = .start (.filterUpdate h) →
        (∀ i, s.ifaceOf h = some i → workMicro j s = { s with work := .filterSend ⟨i.pan, i.short, i.hwAddr⟩ }) ∧
          (s.ifaceOf h = none → workMicro j s = { s with work := .finishing })) ∧
      ∀ v : Filter,
        (s.work = .filterSend v → workMicro j s = { s with
          work := .filterSet v, out := s.out ++ [.filterUpdate v.pan v.short v.long] }) ∧
          (s.work = .filterSet v → workMicro j s = { s with work := .finishing, filter := some v })

/-! ## Frames -/

/-- R345, R111, R45: what each instruction leaves unchanged, whatever it answers and for every burst. The unit operations
and CFG_READ change no state but the output; the others change what their rules name. An operation with a handle changes
no slot but the handle's; IF_ADD none but the one `freeSlot` gives, and none at all where it is refused; DEV_UNREGISTER
none but the bound ones, and none where it is refused. -/
def Obligations.InstructionFrames : Prop :=
  ∀ (s t : State),
    (∀ i, (∃ bs, i = .decodeHdr bs ∨ i = .crcCompute bs ∨ i = .crcAppend bs ∨ i = .crcVerify bs) ∨
        (∃ seq, i = .buildAck seq) ∨ (∃ h r, i = .cfgRead h r) ∨ (∃ h dst m, i = .classify h dst m) ∨
        (∃ h type sec ackreq seq dst src, i = .encodeHdr h type sec ackreq seq dst src) →
      exec i s = .next t → t = { s with out := t.out }) ∧
    (∀ type hw, exec (.ifAdd type hw) s = .next t →
      t = { s with slots := t.slots, seqs := t.seqs, drawn := t.drawn, out := t.out } ∧
        (∀ n : Nat, s.freeSlot = some n → ∀ m : Nat, m ≠ n → t.slots[m]? = s.slots[m]?) ∧
        (s.freeSlot = none ∨ 1 < type.toNat ∨ s.life ≠ .live →
          t.slots = s.slots ∧ t.seqs = s.seqs ∧ t.drawn = s.drawn)) ∧
    (∀ h r v, exec (.cfgWrite h r v) s = .next t → t = { s with slots := t.slots, wq := t.wq, out := t.out } ∧
      ∀ m : Nat, m ≠ h.slot.toNat → t.slots[m]? = s.slots[m]?) ∧
    (∀ h, exec (.ifRemove h) s = .next t → t = { s with slots := t.slots, host := t.host, out := t.out } ∧
      ∀ m : Nat, m ≠ h.slot.toNat → t.slots[m]? = s.slots[m]?) ∧
    (exec .devUnregister s = .next t → t = { s with life := t.life, slots := t.slots, host := t.host, out := t.out } ∧
      (∀ m : Nat, m ∉ s.boundSlots → t.slots[m]? = s.slots[m]?) ∧ (s.life ≠ .live → t.slots = s.slots)) ∧
    (exec .devFree s = .next t → t = { s with
      life := t.life, fatalCause := t.fatalCause, host := t.host, out := t.out }) ∧
    (∀ h type sec ackreq dst src payload, (∀ c ∈ s.tx, c.k ≠ s.ticket) →
      exec (.txFrame h type sec ackreq dst src payload) s = .next t →
      t = { s with slots := t.slots, wq := t.wq, tx := t.tx, out := t.out } ∧
        (∀ m : Nat, m ≠ h.slot.toNat → t.slots[m]? = s.slots[m]?) ∧
        (t.slots = s.slots ∨ ∃ i, s.ifaceOf h = some i ∧
          t.slots = s.slots.set h.slot.toNat ⟨h.gen, .bound (i.taken type)⟩)) ∧
    ∀ i, (∃ bs, i = .rxFrame bs) ∨ (∃ tt f, i = .frameBeacon f ∨ i = .frameData f ∨ i = .frameAck f ∨ i = .frameMaccmd f ∨
        i = .frameUnrecognized tt f) →
      exec i s = .next t → t = { s with
        cntBadcsum := t.cntBadcsum, cntMalformed := t.cntMalformed, wq := t.wq, rx := t.rx, out := t.out
        parses := t.parses, handled := t.handled, clones := t.clones, drawn := t.drawn }

/-! ## State, reset and the whole machine -/

/-- R47, R380, R23, R24, R25, R26, R27, R28: the state after reset, for every configuration, and the reset of a running
block: applied from outside it can be made in any state, `Fatal` and `Released` included, and gives the reset state of the
same configuration; what was in progress is lost without response. The spec calls the values of R47 its own choice (D28).
That the ports' records and the inputs not yet taken stay is the model's choice (log 40), the schedule its own (log 1). -/
def Obligations.ResetValues : Prop :=
  (∀ c : Config, let s := State.resetWith c
    s.cfg = c ∧ s.life = .live ∧ s.fatalCause = .none ∧ s.curChannel = c.chanNone ∧ s.filter = none ∧ s.wq = [] ∧
      s.wqBusy = false ∧ s.cntBadcsum = 0 ∧ s.cntMalformed = 0 ∧ s.trav = [] ∧ s.slots.length = c.nIf ∧
      (∀ sl ∈ s.slots, sl = ⟨0#8, .free⟩) ∧ s.rx = none ∧ s.tx = [] ∧ s.host = .idle ∧ s.resetIn = false) ∧
    ∀ s : State, (Move.reset ∈ s.moves ↔ s.resetIn = true) ∧
      ∀ (b : Nat) (ps : List Pick), s.resetIn = true → s.sched = ⟨.reset, b⟩ :: ps →
        step s = .next { State.resetWith s.cfg with
          cmdIn := s.cmdIn, phyIn := s.phyIn, setChans := s.setChans, transmits := s.transmits, parses := s.parses
          handled := s.handled, out := s.out, ticket := s.ticket, sched := ps, burst := b, seqs := s.seqs
          clones := s.clones, drawn := s.drawn }

/-- R7, R70, R111, R114, R275: a step in which the command at the head of CMD is taken runs exactly the instruction it
decodes to, as the next ticket; a step in which a copy has reached its dispatch runs exactly the pattern its frame control
word decodes to. A step of an agent in progress is one atomic step of it and its burst: `hostMicro`, `txMicro`, `workMicro`,
and `rxMicro` where no pattern is due. Every step is the move chosen, or nothing; a scheduled enabled move is the one made,
with its burst (the schedule and the bursts are the model's, logs 1 and 2). -/
def Obligations.StepRunsDecoded : Prop :=
  (∀ (s u : State) (bs : List Byte) (queue : List (List Byte)) (i : Instr), s.turn = (some .cmd, u) →
      u.cmdIn = bs :: queue → decode .cmd bs = .ok i →
      step s = exec i { u with cmdIn := queue, ticket := u.ticket + 1 }) ∧
    (∀ (s u : State) (j : Nat) (c : RxCtx) (h : HandleCtx) (rest : List HandleCtx) (i : Instr),
      s.turn = (some (.rx j), u) → (u.focusRx j).atDispatch = some (c, h, rest) → decodeFc h.copy.md.fc = .ok i →
      step s = exec i (u.focusRx j)) ∧
    (∀ (s u : State) (j : Nat), s.turn = (some (.rx j), u) →
      (∀ c h rest i, (u.focusRx j).atDispatch = some (c, h, rest) → decodeFc h.copy.md.fc ≠ .ok i) →
      step s = andThen (rxMicro (u.focusRx j)) (advanceRx u.burst)) ∧
    (∀ (s u : State) (j : Nat), s.turn = (some (.host j), u) → step s = .next (advanceHost u.burst (hostMicro j u))) ∧
    (∀ (s u : State) (k : Nat), s.turn = (some (.tx k), u) → step s = .next (advanceTx k u.burst (txMicro k u))) ∧
    (∀ (s u : State) (j : Nat), s.turn = (some (.work j), u) → step s = .next (advanceWork u.burst (workMicro j u))) ∧
    (∀ (s u : State) (m : Move), s.turn = (some m, u) → step s = perform m u) ∧
    (∀ s u : State, s.turn = (none, u) → step s = .next u) ∧
    ∀ (s : State) (p : Pick) (ps : List Pick), s.sched = p :: ps → p.move ∈ s.moves →
      s.turn = (some p.move, { s with sched := ps, burst := p.burst })

/-- R275: running the frame-type pattern of a copy at its dispatch is the receive state machine's own dispatch: for a copy
whose metadata come from an accepted header the pattern exists, is the one of its type, and `exec` of it is the RX agent's
step with its burst. -/
def Obligations.DispatchIsStateMachine : Prop :=
  ∀ (s : State) (c : RxCtx) (h : HandleCtx) (rest : List HandleCtx), s.rx = some c → c.st = .handling (h :: rest) →
    h.stage = .dispatch → h.copy.md.WellShaped h.copy.len →
    ∃ i, decodeFc h.copy.md.fc = .ok i ∧ exec i s = andThen (rxMicro s) (advanceRx s.burst) ∧
      (h.copy.md.type = 0#3 ↔ ∃ f, i = .frameBeacon f) ∧ (h.copy.md.type = 1#3 ↔ ∃ f, i = .frameData f) ∧
      (h.copy.md.type = 2#3 ↔ ∃ f, i = .frameAck f) ∧ (h.copy.md.type = 3#3 ↔ ∃ f, i = .frameMaccmd f) ∧
      ∀ tt : BitVec 2, h.copy.md.type = 1#1 ++ tt ↔ ∃ f, i = .frameUnrecognized tt f

/-- R6, R7, R22 to R27, R30, R393, R380: which agent can change what, in one step of any state: the configuration never
changes and the bank keeps its `N_IF` slots; without a reset the channel and the filter change only in a WORK step, the drop
counters only in an RX step, the life state only in a HOST step, a sequence counter of an interface that stays only in a TX
step; and no step of an agent requests a reset or takes one back. -/
def Obligations.AgentsOwnState : Prop :=
  ∀ (s t : State), step s = .next t →
    let move := s.turn.1
    let byHost := (∃ j, move = some (.host j)) ∨ (move = some .cmd ∧ s.headAddressee = some .host)
    let byRx := (∃ j, move = some (.rx j)) ∨ move = some .phy ∨ (move = some .cmd ∧ s.headAddressee = some .rx)
    let byTx := (∃ k, move = some (.tx k)) ∨ (move = some .cmd ∧ s.headAddressee = some .tx)
    t.cfg = s.cfg ∧ (s.BankSized → t.BankSized) ∧
      (move ≠ some .reset →
        t.slots.length = s.slots.length ∧ t.resetIn = s.resetIn ∧
        (t.curChannel ≠ s.curChannel ∨ t.filter ≠ s.filter → ∃ j, move = some (.work j)) ∧
        (t.cntBadcsum ≠ s.cntBadcsum ∨ t.cntMalformed ≠ s.cntMalformed → byRx) ∧
        (t.life ≠ s.life ∨ t.fatalCause ≠ s.fatalCause → byHost) ∧
        ∀ (n : Nat) (g : Byte) (i j : Iface), s.slots[n]? = some ⟨g, .bound i⟩ → t.slots[n]? = some ⟨g, .bound j⟩ →
          i.dsn ≠ j.dsn ∨ i.bsn ≠ j.bsn → byTx)

/-- R382: with no reset, no command, no frame, no work item and no operation in progress a step does nothing but drop a scheduled
move. That such an entry is dropped is the model's schedule (log 1). -/
def Obligations.IdleWithoutInput : Prop :=
  ∀ (s : State), s.resetIn = false → s.cmdIn = [] → s.phyIn = [] → s.rx = none → s.tx = [] → s.host = .idle → s.wq = [] → s.work = .idle →
    step s = .next { s with sched := s.sched.tail }

/-- R31, R221, R142: from every state in which the slots held by a traversal have fields to read, a step answers a next
state, never a fault or a refusal, and the slots then held have fields to read again. -/
def Obligations.StepNeverStops : Prop :=
  ∀ s : State, s.SlotsHeld → ∃ t, step s = .next t ∧ t.SlotsHeld

/-- R22, R225, R226, R228, R229, R350, R351: the life-cycle invariant is kept by every step: a slot is unlinked only while
the HOST agent waits out its grace period, teardown goes in its order, a released device has no interface and no work
left, and the fatal cause is set exactly in `Fatal`. -/
def Obligations.LifecycleKept : Prop :=
  ∀ s t : State, s.Lifecycle → step s = .next t → t.Lifecycle

/-- R26, R235, R27, R30: every step keeps the work queue within `WQ_DEPTH` items and with at most one `FilterUpdate` per
handle, and the drop counters and generations within their widths. -/
def Obligations.QueueDisciplineKept : Prop :=
  ∀ s t : State, step s = .next t →
    (s.QueueBounded → s.UpdatesOnce → t.QueueBounded ∧ t.UpdatesOnce) ∧ (s.WithinWidths → t.WithinWidths)

/-- R262, R78, R140, R60, R41: every step keeps that no frame has a slot twice among those to visit, to handle and handled,
that every copy's metadata come from an accepted header of at most 23 bytes within the copy's length, and that a frame has
at most 127 bytes, its declared length within them and the header cursor within that. -/
def Obligations.FramesWellFormedKept : Prop :=
  ∀ s t : State, step s = .next t →
    (s.SlotsOnce → s.HeadersAccepted → t.SlotsOnce ∧ t.HeadersAccepted) ∧ (s.FrameBounded → t.FrameBounded)

/-- R310, R311, R314, R318: every step keeps that the calls waiting for their item are, in some order, exactly the calls
of the items queued or being executed: no TX_FRAME is lost, none is answered twice. -/
def Obligations.CallsTrackedKept : Prop :=
  ∀ s t : State, s.CallsTracked → step s = .next t → t.CallsTracked

/-- R47: every invariant of this file holds after reset, for every legal configuration, and `State.reset` is the state
after reset of a legal one, with 4 slots (the model's choice of a configuration, log 4). -/
def Obligations.InvariantsAtReset : Prop :=
  (∀ c : Config, c.wf = true → let s := State.resetWith c
    s.SlotsHeld ∧ s.Lifecycle ∧ s.QueueBounded ∧ s.UpdatesOnce ∧ s.WithinWidths ∧ s.SlotsOnce ∧ s.HeadersAccepted ∧
      s.FrameBounded ∧ s.CallsTracked ∧ s.BankSized) ∧
    State.reset.cfg.wf = true ∧ State.reset = State.resetWith State.reset.cfg ∧ State.reset.slots.length = 4
end

