-- ==== Sys2Proof/Laws/State.lean ====
section
/-! SUPPORT. One lemma per field per basic update of the state, true by rfl, so that no proof unfolds a record update; and
what each derived update is in terms of the basic ones. -/

namespace Sys2Proof.Machine

variable (s : State)

/-! ## emit -/

@[simp] theorem State.emit_cfg (o : PortOut) : (s.emit o).cfg = s.cfg := rfl
@[simp] theorem State.emit_life (o : PortOut) : (s.emit o).life = s.life := rfl
@[simp] theorem State.emit_fatalCause (o : PortOut) : (s.emit o).fatalCause = s.fatalCause := rfl
@[simp] theorem State.emit_curChannel (o : PortOut) : (s.emit o).curChannel = s.curChannel := rfl
@[simp] theorem State.emit_filter (o : PortOut) : (s.emit o).filter = s.filter := rfl
@[simp] theorem State.emit_wq (o : PortOut) : (s.emit o).wq = s.wq := rfl
@[simp] theorem State.emit_work (o : PortOut) : (s.emit o).work = s.work := rfl
@[simp] theorem State.emit_cntBadcsum (o : PortOut) : (s.emit o).cntBadcsum = s.cntBadcsum := rfl
@[simp] theorem State.emit_cntMalformed (o : PortOut) : (s.emit o).cntMalformed = s.cntMalformed := rfl
@[simp] theorem State.emit_slots (o : PortOut) : (s.emit o).slots = s.slots := rfl
@[simp] theorem State.emit_rx (o : PortOut) : (s.emit o).rx = s.rx := rfl
@[simp] theorem State.emit_tx (o : PortOut) : (s.emit o).tx = s.tx := rfl
@[simp] theorem State.emit_host (o : PortOut) : (s.emit o).host = s.host := rfl
@[simp] theorem State.emit_cmdIn (o : PortOut) : (s.emit o).cmdIn = s.cmdIn := rfl
@[simp] theorem State.emit_phyIn (o : PortOut) : (s.emit o).phyIn = s.phyIn := rfl
@[simp] theorem State.emit_resetIn (o : PortOut) : (s.emit o).resetIn = s.resetIn := rfl
@[simp] theorem State.emit_setChans (o : PortOut) : (s.emit o).setChans = s.setChans := rfl
@[simp] theorem State.emit_transmits (o : PortOut) : (s.emit o).transmits = s.transmits := rfl
@[simp] theorem State.emit_parses (o : PortOut) : (s.emit o).parses = s.parses := rfl
@[simp] theorem State.emit_handled (o : PortOut) : (s.emit o).handled = s.handled := rfl
@[simp] theorem State.emit_out (o : PortOut) : (s.emit o).out = s.out ++ [o] := rfl
@[simp] theorem State.emit_ticket (o : PortOut) : (s.emit o).ticket = s.ticket := rfl
@[simp] theorem State.emit_sched (o : PortOut) : (s.emit o).sched = s.sched := rfl
@[simp] theorem State.emit_burst (o : PortOut) : (s.emit o).burst = s.burst := rfl
@[simp] theorem State.emit_seqs (o : PortOut) : (s.emit o).seqs = s.seqs := rfl
@[simp] theorem State.emit_clones (o : PortOut) : (s.emit o).clones = s.clones := rfl
@[simp] theorem State.emit_drawn (o : PortOut) : (s.emit o).drawn = s.drawn := rfl

/-! ## setSlot -/

@[simp] theorem State.setSlot_cfg (n : Nat) (sl : Slot) : (s.setSlot n sl).cfg = s.cfg := rfl
@[simp] theorem State.setSlot_life (n : Nat) (sl : Slot) : (s.setSlot n sl).life = s.life := rfl
@[simp] theorem State.setSlot_fatalCause (n : Nat) (sl : Slot) : (s.setSlot n sl).fatalCause = s.fatalCause := rfl
@[simp] theorem State.setSlot_curChannel (n : Nat) (sl : Slot) : (s.setSlot n sl).curChannel = s.curChannel := rfl
@[simp] theorem State.setSlot_filter (n : Nat) (sl : Slot) : (s.setSlot n sl).filter = s.filter := rfl
@[simp] theorem State.setSlot_wq (n : Nat) (sl : Slot) : (s.setSlot n sl).wq = s.wq := rfl
@[simp] theorem State.setSlot_work (n : Nat) (sl : Slot) : (s.setSlot n sl).work = s.work := rfl
@[simp] theorem State.setSlot_cntBadcsum (n : Nat) (sl : Slot) : (s.setSlot n sl).cntBadcsum = s.cntBadcsum := rfl
@[simp] theorem State.setSlot_cntMalformed (n : Nat) (sl : Slot) : (s.setSlot n sl).cntMalformed = s.cntMalformed := rfl
@[simp] theorem State.setSlot_slots (n : Nat) (sl : Slot) : (s.setSlot n sl).slots = s.slots.set n sl := rfl
@[simp] theorem State.setSlot_rx (n : Nat) (sl : Slot) : (s.setSlot n sl).rx = s.rx := rfl
@[simp] theorem State.setSlot_tx (n : Nat) (sl : Slot) : (s.setSlot n sl).tx = s.tx := rfl
@[simp] theorem State.setSlot_host (n : Nat) (sl : Slot) : (s.setSlot n sl).host = s.host := rfl
@[simp] theorem State.setSlot_cmdIn (n : Nat) (sl : Slot) : (s.setSlot n sl).cmdIn = s.cmdIn := rfl
@[simp] theorem State.setSlot_phyIn (n : Nat) (sl : Slot) : (s.setSlot n sl).phyIn = s.phyIn := rfl
@[simp] theorem State.setSlot_resetIn (n : Nat) (sl : Slot) : (s.setSlot n sl).resetIn = s.resetIn := rfl
@[simp] theorem State.setSlot_setChans (n : Nat) (sl : Slot) : (s.setSlot n sl).setChans = s.setChans := rfl
@[simp] theorem State.setSlot_transmits (n : Nat) (sl : Slot) : (s.setSlot n sl).transmits = s.transmits := rfl
@[simp] theorem State.setSlot_parses (n : Nat) (sl : Slot) : (s.setSlot n sl).parses = s.parses := rfl
@[simp] theorem State.setSlot_handled (n : Nat) (sl : Slot) : (s.setSlot n sl).handled = s.handled := rfl
@[simp] theorem State.setSlot_out (n : Nat) (sl : Slot) : (s.setSlot n sl).out = s.out := rfl
@[simp] theorem State.setSlot_ticket (n : Nat) (sl : Slot) : (s.setSlot n sl).ticket = s.ticket := rfl
@[simp] theorem State.setSlot_sched (n : Nat) (sl : Slot) : (s.setSlot n sl).sched = s.sched := rfl
@[simp] theorem State.setSlot_burst (n : Nat) (sl : Slot) : (s.setSlot n sl).burst = s.burst := rfl
@[simp] theorem State.setSlot_seqs (n : Nat) (sl : Slot) : (s.setSlot n sl).seqs = s.seqs := rfl
@[simp] theorem State.setSlot_clones (n : Nat) (sl : Slot) : (s.setSlot n sl).clones = s.clones := rfl
@[simp] theorem State.setSlot_drawn (n : Nat) (sl : Slot) : (s.setSlot n sl).drawn = s.drawn := rfl

/-! ## setRx -/

@[simp] theorem State.setRx_cfg (c : Option RxCtx) : (s.setRx c).cfg = s.cfg := rfl
@[simp] theorem State.setRx_life (c : Option RxCtx) : (s.setRx c).life = s.life := rfl
@[simp] theorem State.setRx_fatalCause (c : Option RxCtx) : (s.setRx c).fatalCause = s.fatalCause := rfl
@[simp] theorem State.setRx_curChannel (c : Option RxCtx) : (s.setRx c).curChannel = s.curChannel := rfl
@[simp] theorem State.setRx_filter (c : Option RxCtx) : (s.setRx c).filter = s.filter := rfl
@[simp] theorem State.setRx_wq (c : Option RxCtx) : (s.setRx c).wq = s.wq := rfl
@[simp] theorem State.setRx_work (c : Option RxCtx) : (s.setRx c).work = s.work := rfl
@[simp] theorem State.setRx_cntBadcsum (c : Option RxCtx) : (s.setRx c).cntBadcsum = s.cntBadcsum := rfl
@[simp] theorem State.setRx_cntMalformed (c : Option RxCtx) : (s.setRx c).cntMalformed = s.cntMalformed := rfl
@[simp] theorem State.setRx_slots (c : Option RxCtx) : (s.setRx c).slots = s.slots := rfl
@[simp] theorem State.setRx_rx (c : Option RxCtx) : (s.setRx c).rx = c := rfl
@[simp] theorem State.setRx_tx (c : Option RxCtx) : (s.setRx c).tx = s.tx := rfl
@[simp] theorem State.setRx_host (c : Option RxCtx) : (s.setRx c).host = s.host := rfl
@[simp] theorem State.setRx_cmdIn (c : Option RxCtx) : (s.setRx c).cmdIn = s.cmdIn := rfl
@[simp] theorem State.setRx_phyIn (c : Option RxCtx) : (s.setRx c).phyIn = s.phyIn := rfl
@[simp] theorem State.setRx_resetIn (c : Option RxCtx) : (s.setRx c).resetIn = s.resetIn := rfl
@[simp] theorem State.setRx_setChans (c : Option RxCtx) : (s.setRx c).setChans = s.setChans := rfl
@[simp] theorem State.setRx_transmits (c : Option RxCtx) : (s.setRx c).transmits = s.transmits := rfl
@[simp] theorem State.setRx_parses (c : Option RxCtx) : (s.setRx c).parses = s.parses := rfl
@[simp] theorem State.setRx_handled (c : Option RxCtx) : (s.setRx c).handled = s.handled := rfl
@[simp] theorem State.setRx_out (c : Option RxCtx) : (s.setRx c).out = s.out := rfl
@[simp] theorem State.setRx_ticket (c : Option RxCtx) : (s.setRx c).ticket = s.ticket := rfl
@[simp] theorem State.setRx_sched (c : Option RxCtx) : (s.setRx c).sched = s.sched := rfl
@[simp] theorem State.setRx_burst (c : Option RxCtx) : (s.setRx c).burst = s.burst := rfl
@[simp] theorem State.setRx_seqs (c : Option RxCtx) : (s.setRx c).seqs = s.seqs := rfl
@[simp] theorem State.setRx_clones (c : Option RxCtx) : (s.setRx c).clones = s.clones := rfl
@[simp] theorem State.setRx_drawn (c : Option RxCtx) : (s.setRx c).drawn = s.drawn := rfl

/-! ## setHost -/

@[simp] theorem State.setHost_cfg (h : HostStage) : (s.setHost h).cfg = s.cfg := rfl
@[simp] theorem State.setHost_life (h : HostStage) : (s.setHost h).life = s.life := rfl
@[simp] theorem State.setHost_fatalCause (h : HostStage) : (s.setHost h).fatalCause = s.fatalCause := rfl
@[simp] theorem State.setHost_curChannel (h : HostStage) : (s.setHost h).curChannel = s.curChannel := rfl
@[simp] theorem State.setHost_filter (h : HostStage) : (s.setHost h).filter = s.filter := rfl
@[simp] theorem State.setHost_wq (h : HostStage) : (s.setHost h).wq = s.wq := rfl
@[simp] theorem State.setHost_work (h : HostStage) : (s.setHost h).work = s.work := rfl
@[simp] theorem State.setHost_cntBadcsum (h : HostStage) : (s.setHost h).cntBadcsum = s.cntBadcsum := rfl
@[simp] theorem State.setHost_cntMalformed (h : HostStage) : (s.setHost h).cntMalformed = s.cntMalformed := rfl
@[simp] theorem State.setHost_slots (h : HostStage) : (s.setHost h).slots = s.slots := rfl
@[simp] theorem State.setHost_rx (h : HostStage) : (s.setHost h).rx = s.rx := rfl
@[simp] theorem State.setHost_tx (h : HostStage) : (s.setHost h).tx = s.tx := rfl
@[simp] theorem State.setHost_host (h : HostStage) : (s.setHost h).host = h := rfl
@[simp] theorem State.setHost_cmdIn (h : HostStage) : (s.setHost h).cmdIn = s.cmdIn := rfl
@[simp] theorem State.setHost_phyIn (h : HostStage) : (s.setHost h).phyIn = s.phyIn := rfl
@[simp] theorem State.setHost_resetIn (h : HostStage) : (s.setHost h).resetIn = s.resetIn := rfl
@[simp] theorem State.setHost_setChans (h : HostStage) : (s.setHost h).setChans = s.setChans := rfl
@[simp] theorem State.setHost_transmits (h : HostStage) : (s.setHost h).transmits = s.transmits := rfl
@[simp] theorem State.setHost_parses (h : HostStage) : (s.setHost h).parses = s.parses := rfl
@[simp] theorem State.setHost_handled (h : HostStage) : (s.setHost h).handled = s.handled := rfl
@[simp] theorem State.setHost_out (h : HostStage) : (s.setHost h).out = s.out := rfl
@[simp] theorem State.setHost_ticket (h : HostStage) : (s.setHost h).ticket = s.ticket := rfl
@[simp] theorem State.setHost_sched (h : HostStage) : (s.setHost h).sched = s.sched := rfl
@[simp] theorem State.setHost_burst (h : HostStage) : (s.setHost h).burst = s.burst := rfl
@[simp] theorem State.setHost_seqs (h : HostStage) : (s.setHost h).seqs = s.seqs := rfl
@[simp] theorem State.setHost_clones (h : HostStage) : (s.setHost h).clones = s.clones := rfl
@[simp] theorem State.setHost_drawn (h : HostStage) : (s.setHost h).drawn = s.drawn := rfl

/-! ## setWork -/

@[simp] theorem State.setWork_cfg (w : WorkStage) : (s.setWork w).cfg = s.cfg := rfl
@[simp] theorem State.setWork_life (w : WorkStage) : (s.setWork w).life = s.life := rfl
@[simp] theorem State.setWork_fatalCause (w : WorkStage) : (s.setWork w).fatalCause = s.fatalCause := rfl
@[simp] theorem State.setWork_curChannel (w : WorkStage) : (s.setWork w).curChannel = s.curChannel := rfl
@[simp] theorem State.setWork_filter (w : WorkStage) : (s.setWork w).filter = s.filter := rfl
@[simp] theorem State.setWork_wq (w : WorkStage) : (s.setWork w).wq = s.wq := rfl
@[simp] theorem State.setWork_work (w : WorkStage) : (s.setWork w).work = w := rfl
@[simp] theorem State.setWork_cntBadcsum (w : WorkStage) : (s.setWork w).cntBadcsum = s.cntBadcsum := rfl
@[simp] theorem State.setWork_cntMalformed (w : WorkStage) : (s.setWork w).cntMalformed = s.cntMalformed := rfl
@[simp] theorem State.setWork_slots (w : WorkStage) : (s.setWork w).slots = s.slots := rfl
@[simp] theorem State.setWork_rx (w : WorkStage) : (s.setWork w).rx = s.rx := rfl
@[simp] theorem State.setWork_tx (w : WorkStage) : (s.setWork w).tx = s.tx := rfl
@[simp] theorem State.setWork_host (w : WorkStage) : (s.setWork w).host = s.host := rfl
@[simp] theorem State.setWork_cmdIn (w : WorkStage) : (s.setWork w).cmdIn = s.cmdIn := rfl
@[simp] theorem State.setWork_phyIn (w : WorkStage) : (s.setWork w).phyIn = s.phyIn := rfl
@[simp] theorem State.setWork_resetIn (w : WorkStage) : (s.setWork w).resetIn = s.resetIn := rfl
@[simp] theorem State.setWork_setChans (w : WorkStage) : (s.setWork w).setChans = s.setChans := rfl
@[simp] theorem State.setWork_transmits (w : WorkStage) : (s.setWork w).transmits = s.transmits := rfl
@[simp] theorem State.setWork_parses (w : WorkStage) : (s.setWork w).parses = s.parses := rfl
@[simp] theorem State.setWork_handled (w : WorkStage) : (s.setWork w).handled = s.handled := rfl
@[simp] theorem State.setWork_out (w : WorkStage) : (s.setWork w).out = s.out := rfl
@[simp] theorem State.setWork_ticket (w : WorkStage) : (s.setWork w).ticket = s.ticket := rfl
@[simp] theorem State.setWork_sched (w : WorkStage) : (s.setWork w).sched = s.sched := rfl
@[simp] theorem State.setWork_burst (w : WorkStage) : (s.setWork w).burst = s.burst := rfl
@[simp] theorem State.setWork_seqs (w : WorkStage) : (s.setWork w).seqs = s.seqs := rfl
@[simp] theorem State.setWork_clones (w : WorkStage) : (s.setWork w).clones = s.clones := rfl
@[simp] theorem State.setWork_drawn (w : WorkStage) : (s.setWork w).drawn = s.drawn := rfl

/-! ## setTx -/

@[simp] theorem State.setTx_cfg (l : List TxCtx) : (s.setTx l).cfg = s.cfg := rfl
@[simp] theorem State.setTx_life (l : List TxCtx) : (s.setTx l).life = s.life := rfl
@[simp] theorem State.setTx_fatalCause (l : List TxCtx) : (s.setTx l).fatalCause = s.fatalCause := rfl
@[simp] theorem State.setTx_curChannel (l : List TxCtx) : (s.setTx l).curChannel = s.curChannel := rfl
@[simp] theorem State.setTx_filter (l : List TxCtx) : (s.setTx l).filter = s.filter := rfl
@[simp] theorem State.setTx_wq (l : List TxCtx) : (s.setTx l).wq = s.wq := rfl
@[simp] theorem State.setTx_work (l : List TxCtx) : (s.setTx l).work = s.work := rfl
@[simp] theorem State.setTx_cntBadcsum (l : List TxCtx) : (s.setTx l).cntBadcsum = s.cntBadcsum := rfl
@[simp] theorem State.setTx_cntMalformed (l : List TxCtx) : (s.setTx l).cntMalformed = s.cntMalformed := rfl
@[simp] theorem State.setTx_slots (l : List TxCtx) : (s.setTx l).slots = s.slots := rfl
@[simp] theorem State.setTx_rx (l : List TxCtx) : (s.setTx l).rx = s.rx := rfl
@[simp] theorem State.setTx_tx (l : List TxCtx) : (s.setTx l).tx = l := rfl
@[simp] theorem State.setTx_host (l : List TxCtx) : (s.setTx l).host = s.host := rfl
@[simp] theorem State.setTx_cmdIn (l : List TxCtx) : (s.setTx l).cmdIn = s.cmdIn := rfl
@[simp] theorem State.setTx_phyIn (l : List TxCtx) : (s.setTx l).phyIn = s.phyIn := rfl
@[simp] theorem State.setTx_resetIn (l : List TxCtx) : (s.setTx l).resetIn = s.resetIn := rfl
@[simp] theorem State.setTx_setChans (l : List TxCtx) : (s.setTx l).setChans = s.setChans := rfl
@[simp] theorem State.setTx_transmits (l : List TxCtx) : (s.setTx l).transmits = s.transmits := rfl
@[simp] theorem State.setTx_parses (l : List TxCtx) : (s.setTx l).parses = s.parses := rfl
@[simp] theorem State.setTx_handled (l : List TxCtx) : (s.setTx l).handled = s.handled := rfl
@[simp] theorem State.setTx_out (l : List TxCtx) : (s.setTx l).out = s.out := rfl
@[simp] theorem State.setTx_ticket (l : List TxCtx) : (s.setTx l).ticket = s.ticket := rfl
@[simp] theorem State.setTx_sched (l : List TxCtx) : (s.setTx l).sched = s.sched := rfl
@[simp] theorem State.setTx_burst (l : List TxCtx) : (s.setTx l).burst = s.burst := rfl
@[simp] theorem State.setTx_seqs (l : List TxCtx) : (s.setTx l).seqs = s.seqs := rfl
@[simp] theorem State.setTx_clones (l : List TxCtx) : (s.setTx l).clones = s.clones := rfl
@[simp] theorem State.setTx_drawn (l : List TxCtx) : (s.setTx l).drawn = s.drawn := rfl

/-! ## pushWork -/

@[simp] theorem State.pushWork_cfg (w : WorkItem) : (s.pushWork w).cfg = s.cfg := rfl
@[simp] theorem State.pushWork_life (w : WorkItem) : (s.pushWork w).life = s.life := rfl
@[simp] theorem State.pushWork_fatalCause (w : WorkItem) : (s.pushWork w).fatalCause = s.fatalCause := rfl
@[simp] theorem State.pushWork_curChannel (w : WorkItem) : (s.pushWork w).curChannel = s.curChannel := rfl
@[simp] theorem State.pushWork_filter (w : WorkItem) : (s.pushWork w).filter = s.filter := rfl
@[simp] theorem State.pushWork_wq (w : WorkItem) : (s.pushWork w).wq = s.wq ++ [w] := rfl
@[simp] theorem State.pushWork_work (w : WorkItem) : (s.pushWork w).work = s.work := rfl
@[simp] theorem State.pushWork_cntBadcsum (w : WorkItem) : (s.pushWork w).cntBadcsum = s.cntBadcsum := rfl
@[simp] theorem State.pushWork_cntMalformed (w : WorkItem) : (s.pushWork w).cntMalformed = s.cntMalformed := rfl
@[simp] theorem State.pushWork_slots (w : WorkItem) : (s.pushWork w).slots = s.slots := rfl
@[simp] theorem State.pushWork_rx (w : WorkItem) : (s.pushWork w).rx = s.rx := rfl
@[simp] theorem State.pushWork_tx (w : WorkItem) : (s.pushWork w).tx = s.tx := rfl
@[simp] theorem State.pushWork_host (w : WorkItem) : (s.pushWork w).host = s.host := rfl
@[simp] theorem State.pushWork_cmdIn (w : WorkItem) : (s.pushWork w).cmdIn = s.cmdIn := rfl
@[simp] theorem State.pushWork_phyIn (w : WorkItem) : (s.pushWork w).phyIn = s.phyIn := rfl
@[simp] theorem State.pushWork_resetIn (w : WorkItem) : (s.pushWork w).resetIn = s.resetIn := rfl
@[simp] theorem State.pushWork_setChans (w : WorkItem) : (s.pushWork w).setChans = s.setChans := rfl
@[simp] theorem State.pushWork_transmits (w : WorkItem) : (s.pushWork w).transmits = s.transmits := rfl
@[simp] theorem State.pushWork_parses (w : WorkItem) : (s.pushWork w).parses = s.parses := rfl
@[simp] theorem State.pushWork_handled (w : WorkItem) : (s.pushWork w).handled = s.handled := rfl
@[simp] theorem State.pushWork_out (w : WorkItem) : (s.pushWork w).out = s.out := rfl
@[simp] theorem State.pushWork_ticket (w : WorkItem) : (s.pushWork w).ticket = s.ticket := rfl
@[simp] theorem State.pushWork_sched (w : WorkItem) : (s.pushWork w).sched = s.sched := rfl
@[simp] theorem State.pushWork_burst (w : WorkItem) : (s.pushWork w).burst = s.burst := rfl
@[simp] theorem State.pushWork_seqs (w : WorkItem) : (s.pushWork w).seqs = s.seqs := rfl
@[simp] theorem State.pushWork_clones (w : WorkItem) : (s.pushWork w).clones = s.clones := rfl
@[simp] theorem State.pushWork_drawn (w : WorkItem) : (s.pushWork w).drawn = s.drawn := rfl

/-! ## restarted -/

@[simp] theorem State.restarted_cfg : s.restarted.cfg = s.cfg := rfl
@[simp] theorem State.restarted_life : s.restarted.life = .live := rfl
@[simp] theorem State.restarted_fatalCause : s.restarted.fatalCause = .none := rfl
@[simp] theorem State.restarted_curChannel : s.restarted.curChannel = s.cfg.chanNone := rfl
@[simp] theorem State.restarted_filter : s.restarted.filter = none := rfl
@[simp] theorem State.restarted_wq : s.restarted.wq = [] := rfl
@[simp] theorem State.restarted_work : s.restarted.work = .idle := rfl
@[simp] theorem State.restarted_cntBadcsum : s.restarted.cntBadcsum = 0 := rfl
@[simp] theorem State.restarted_cntMalformed : s.restarted.cntMalformed = 0 := rfl
@[simp] theorem State.restarted_slots : s.restarted.slots = List.replicate s.cfg.nIf Slot.reset := rfl
@[simp] theorem State.restarted_rx : s.restarted.rx = none := rfl
@[simp] theorem State.restarted_tx : s.restarted.tx = [] := rfl
@[simp] theorem State.restarted_host : s.restarted.host = .idle := rfl
@[simp] theorem State.restarted_cmdIn : s.restarted.cmdIn = s.cmdIn := rfl
@[simp] theorem State.restarted_phyIn : s.restarted.phyIn = s.phyIn := rfl
@[simp] theorem State.restarted_resetIn : s.restarted.resetIn = false := rfl
@[simp] theorem State.restarted_setChans : s.restarted.setChans = s.setChans := rfl
@[simp] theorem State.restarted_transmits : s.restarted.transmits = s.transmits := rfl
@[simp] theorem State.restarted_parses : s.restarted.parses = s.parses := rfl
@[simp] theorem State.restarted_handled : s.restarted.handled = s.handled := rfl
@[simp] theorem State.restarted_out : s.restarted.out = s.out := rfl
@[simp] theorem State.restarted_ticket : s.restarted.ticket = s.ticket := rfl
@[simp] theorem State.restarted_sched : s.restarted.sched = s.sched := rfl
@[simp] theorem State.restarted_burst : s.restarted.burst = s.burst := rfl
@[simp] theorem State.restarted_seqs : s.restarted.seqs = s.seqs := rfl
@[simp] theorem State.restarted_clones : s.restarted.clones = s.clones := rfl
@[simp] theorem State.restarted_drawn : s.restarted.drawn = s.drawn := rfl

/-! ## Derived updates -/

@[simp] theorem State.event_eq_emit (c : EventCode) (i : Nat) : s.event c i = s.emit (.event c i) := rfl
@[simp] theorem State.answer_eq_emit (k : Nat) (b : List Byte) : s.answer k b = s.emit (.response k b) := rfl
@[simp] theorem State.respond_eq_emit (b : List Byte) : s.respond b = s.emit (.response s.ticket (0#8 :: b)) := rfl
@[simp] theorem State.refuse_eq_emit (e : Status) : s.refuse e = s.emit (.response s.ticket e.bytes) := rfl
@[simp] theorem State.setIface_eq_setSlot (h : Handle) (i : Iface) :
    s.setIface h i = s.setSlot h.slot.toNat ⟨h.gen, .bound i⟩ := rfl
@[simp] theorem State.rxTo_eq_setRx (c : RxCtx) (st : RxState) : s.rxTo c st = s.setRx (some { c with st := st }) := rfl
@[simp] theorem State.putHandle_eq_setRx (c : RxCtx) (h : HandleCtx) (rest : List HandleCtx) :
    s.putHandle c h rest = s.setRx (some { c with st := .handling (h :: rest) }) := rfl
@[simp] theorem State.dropHandle_eq_setRx (c : RxCtx) (n : Nat) (o : CopyOutcome) (rest : List HandleCtx) :
    s.dropHandle c n o rest =
      s.setRx (some { c with st := .handling rest, outcomes := c.outcomes ++ [(n, o)] }) := rfl
@[simp] theorem State.startRx_eq_setRx (src : FrameSource) (b : List Byte) :
    s.startRx src b = s.setRx (some ⟨src, b, b.length, 0, .checksumCheck, []⟩) := rfl
@[simp] theorem State.endTx_eq_setTx (k : Nat) : s.endTx k = s.setTx (s.tx.filter (fun c => c.k != k)) := rfl
@[simp] theorem State.txTo_eq_setTx (k : Nat) (st : TxStage) :
    s.txTo k st = s.setTx (s.tx.map (fun c => if c.k = k then { c with stage := st } else c)) := rfl
@[simp] theorem State.txBuilt_eq_setTx (k : Nat) (t : TxBuf) :
    s.txBuilt k t = s.setTx (s.tx.map (fun c => if c.k = k then { c with txc := t, stage := .built } else c)) := rfl

/-! ## Updates written twice -/

@[simp] theorem State.setRx_setRx (c d : Option RxCtx) : (s.setRx c).setRx d = s.setRx d := rfl
@[simp] theorem State.setHost_setHost (h g : HostStage) : (s.setHost h).setHost g = s.setHost g := rfl
@[simp] theorem State.setWork_setWork (w v : WorkStage) : (s.setWork w).setWork v = s.setWork v := rfl
@[simp] theorem State.setTx_setTx (l m : List TxCtx) : (s.setTx l).setTx m = s.setTx m := rfl

end Sys2Proof.Machine
end

