-- ==== Sys2Proof/Laws/Draws.lean ====
section
/-! SUPPORT. What a draw of an open value, or an answer of the environment, leaves unchanged: everything but its own list
and the counter of free values. -/

namespace Sys2Proof.Machine

variable (s : State)

/-! ## drawSeq -/

/-- A scripted answer is given first; nothing else of the state is touched. -/
theorem State.drawSeq_cons (b) (bs) (h : s.seqs = b :: bs) : s.drawSeq = (b, { s with seqs := bs }) := by
  simp [State.drawSeq, h]

/-- The whole effect of the draw on the state. -/
theorem State.drawSeq_frame : s.drawSeq.2 = { s with seqs := s.drawSeq.2.seqs, drawn := s.drawSeq.2.drawn } := by
  unfold State.drawSeq; split <;> rfl

@[simp] theorem State.drawSeq_cfg : s.drawSeq.2.cfg = s.cfg := by rw [State.drawSeq_frame]
@[simp] theorem State.drawSeq_life : s.drawSeq.2.life = s.life := by rw [State.drawSeq_frame]
@[simp] theorem State.drawSeq_fatalCause : s.drawSeq.2.fatalCause = s.fatalCause := by rw [State.drawSeq_frame]
@[simp] theorem State.drawSeq_curChannel : s.drawSeq.2.curChannel = s.curChannel := by rw [State.drawSeq_frame]
@[simp] theorem State.drawSeq_filter : s.drawSeq.2.filter = s.filter := by rw [State.drawSeq_frame]
@[simp] theorem State.drawSeq_wq : s.drawSeq.2.wq = s.wq := by rw [State.drawSeq_frame]
@[simp] theorem State.drawSeq_work : s.drawSeq.2.work = s.work := by rw [State.drawSeq_frame]
@[simp] theorem State.drawSeq_cntBadcsum : s.drawSeq.2.cntBadcsum = s.cntBadcsum := by rw [State.drawSeq_frame]
@[simp] theorem State.drawSeq_cntMalformed : s.drawSeq.2.cntMalformed = s.cntMalformed := by rw [State.drawSeq_frame]
@[simp] theorem State.drawSeq_slots : s.drawSeq.2.slots = s.slots := by rw [State.drawSeq_frame]
@[simp] theorem State.drawSeq_rx : s.drawSeq.2.rx = s.rx := by rw [State.drawSeq_frame]
@[simp] theorem State.drawSeq_tx : s.drawSeq.2.tx = s.tx := by rw [State.drawSeq_frame]
@[simp] theorem State.drawSeq_host : s.drawSeq.2.host = s.host := by rw [State.drawSeq_frame]
@[simp] theorem State.drawSeq_cmdIn : s.drawSeq.2.cmdIn = s.cmdIn := by rw [State.drawSeq_frame]
@[simp] theorem State.drawSeq_phyIn : s.drawSeq.2.phyIn = s.phyIn := by rw [State.drawSeq_frame]
@[simp] theorem State.drawSeq_resetIn : s.drawSeq.2.resetIn = s.resetIn := by rw [State.drawSeq_frame]
@[simp] theorem State.drawSeq_setChans : s.drawSeq.2.setChans = s.setChans := by rw [State.drawSeq_frame]
@[simp] theorem State.drawSeq_transmits : s.drawSeq.2.transmits = s.transmits := by rw [State.drawSeq_frame]
@[simp] theorem State.drawSeq_parses : s.drawSeq.2.parses = s.parses := by rw [State.drawSeq_frame]
@[simp] theorem State.drawSeq_handled : s.drawSeq.2.handled = s.handled := by rw [State.drawSeq_frame]
@[simp] theorem State.drawSeq_out : s.drawSeq.2.out = s.out := by rw [State.drawSeq_frame]
@[simp] theorem State.drawSeq_ticket : s.drawSeq.2.ticket = s.ticket := by rw [State.drawSeq_frame]
@[simp] theorem State.drawSeq_sched : s.drawSeq.2.sched = s.sched := by rw [State.drawSeq_frame]
@[simp] theorem State.drawSeq_burst : s.drawSeq.2.burst = s.burst := by rw [State.drawSeq_frame]
@[simp] theorem State.drawSeq_clones : s.drawSeq.2.clones = s.clones := by rw [State.drawSeq_frame]

/-! ## drawClone -/

/-- A scripted answer is given first; nothing else of the state is touched. -/
theorem State.drawClone_cons (b) (bs) (h : s.clones = b :: bs) : s.drawClone = (b, { s with clones := bs }) := by
  simp [State.drawClone, h]

/-- The whole effect of the draw on the state. -/
theorem State.drawClone_frame : s.drawClone.2 = { s with clones := s.drawClone.2.clones, drawn := s.drawClone.2.drawn } := by
  unfold State.drawClone; split <;> rfl

@[simp] theorem State.drawClone_cfg : s.drawClone.2.cfg = s.cfg := by rw [State.drawClone_frame]
@[simp] theorem State.drawClone_life : s.drawClone.2.life = s.life := by rw [State.drawClone_frame]
@[simp] theorem State.drawClone_fatalCause : s.drawClone.2.fatalCause = s.fatalCause := by rw [State.drawClone_frame]
@[simp] theorem State.drawClone_curChannel : s.drawClone.2.curChannel = s.curChannel := by rw [State.drawClone_frame]
@[simp] theorem State.drawClone_filter : s.drawClone.2.filter = s.filter := by rw [State.drawClone_frame]
@[simp] theorem State.drawClone_wq : s.drawClone.2.wq = s.wq := by rw [State.drawClone_frame]
@[simp] theorem State.drawClone_work : s.drawClone.2.work = s.work := by rw [State.drawClone_frame]
@[simp] theorem State.drawClone_cntBadcsum : s.drawClone.2.cntBadcsum = s.cntBadcsum := by rw [State.drawClone_frame]
@[simp] theorem State.drawClone_cntMalformed : s.drawClone.2.cntMalformed = s.cntMalformed := by rw [State.drawClone_frame]
@[simp] theorem State.drawClone_slots : s.drawClone.2.slots = s.slots := by rw [State.drawClone_frame]
@[simp] theorem State.drawClone_rx : s.drawClone.2.rx = s.rx := by rw [State.drawClone_frame]
@[simp] theorem State.drawClone_tx : s.drawClone.2.tx = s.tx := by rw [State.drawClone_frame]
@[simp] theorem State.drawClone_host : s.drawClone.2.host = s.host := by rw [State.drawClone_frame]
@[simp] theorem State.drawClone_cmdIn : s.drawClone.2.cmdIn = s.cmdIn := by rw [State.drawClone_frame]
@[simp] theorem State.drawClone_phyIn : s.drawClone.2.phyIn = s.phyIn := by rw [State.drawClone_frame]
@[simp] theorem State.drawClone_resetIn : s.drawClone.2.resetIn = s.resetIn := by rw [State.drawClone_frame]
@[simp] theorem State.drawClone_setChans : s.drawClone.2.setChans = s.setChans := by rw [State.drawClone_frame]
@[simp] theorem State.drawClone_transmits : s.drawClone.2.transmits = s.transmits := by rw [State.drawClone_frame]
@[simp] theorem State.drawClone_parses : s.drawClone.2.parses = s.parses := by rw [State.drawClone_frame]
@[simp] theorem State.drawClone_handled : s.drawClone.2.handled = s.handled := by rw [State.drawClone_frame]
@[simp] theorem State.drawClone_out : s.drawClone.2.out = s.out := by rw [State.drawClone_frame]
@[simp] theorem State.drawClone_ticket : s.drawClone.2.ticket = s.ticket := by rw [State.drawClone_frame]
@[simp] theorem State.drawClone_sched : s.drawClone.2.sched = s.sched := by rw [State.drawClone_frame]
@[simp] theorem State.drawClone_burst : s.drawClone.2.burst = s.burst := by rw [State.drawClone_frame]
@[simp] theorem State.drawClone_seqs : s.drawClone.2.seqs = s.seqs := by rw [State.drawClone_frame]

/-! ## nextSetChannel -/

/-- A scripted answer is given first; nothing else of the state is touched. -/
theorem State.nextSetChannel_cons (b) (bs) (h : s.setChans = b :: bs) : s.nextSetChannel = (b, { s with setChans := bs }) := by
  simp [State.nextSetChannel, h]

/-- The whole effect of the draw on the state. -/
theorem State.nextSetChannel_frame : s.nextSetChannel.2 = { s with setChans := s.nextSetChannel.2.setChans, drawn := s.nextSetChannel.2.drawn } := by
  unfold State.nextSetChannel; split <;> rfl

@[simp] theorem State.nextSetChannel_cfg : s.nextSetChannel.2.cfg = s.cfg := by rw [State.nextSetChannel_frame]
@[simp] theorem State.nextSetChannel_life : s.nextSetChannel.2.life = s.life := by rw [State.nextSetChannel_frame]
@[simp] theorem State.nextSetChannel_fatalCause : s.nextSetChannel.2.fatalCause = s.fatalCause := by rw [State.nextSetChannel_frame]
@[simp] theorem State.nextSetChannel_curChannel : s.nextSetChannel.2.curChannel = s.curChannel := by rw [State.nextSetChannel_frame]
@[simp] theorem State.nextSetChannel_filter : s.nextSetChannel.2.filter = s.filter := by rw [State.nextSetChannel_frame]
@[simp] theorem State.nextSetChannel_wq : s.nextSetChannel.2.wq = s.wq := by rw [State.nextSetChannel_frame]
@[simp] theorem State.nextSetChannel_work : s.nextSetChannel.2.work = s.work := by rw [State.nextSetChannel_frame]
@[simp] theorem State.nextSetChannel_cntBadcsum : s.nextSetChannel.2.cntBadcsum = s.cntBadcsum := by rw [State.nextSetChannel_frame]
@[simp] theorem State.nextSetChannel_cntMalformed : s.nextSetChannel.2.cntMalformed = s.cntMalformed := by rw [State.nextSetChannel_frame]
@[simp] theorem State.nextSetChannel_slots : s.nextSetChannel.2.slots = s.slots := by rw [State.nextSetChannel_frame]
@[simp] theorem State.nextSetChannel_rx : s.nextSetChannel.2.rx = s.rx := by rw [State.nextSetChannel_frame]
@[simp] theorem State.nextSetChannel_tx : s.nextSetChannel.2.tx = s.tx := by rw [State.nextSetChannel_frame]
@[simp] theorem State.nextSetChannel_host : s.nextSetChannel.2.host = s.host := by rw [State.nextSetChannel_frame]
@[simp] theorem State.nextSetChannel_cmdIn : s.nextSetChannel.2.cmdIn = s.cmdIn := by rw [State.nextSetChannel_frame]
@[simp] theorem State.nextSetChannel_phyIn : s.nextSetChannel.2.phyIn = s.phyIn := by rw [State.nextSetChannel_frame]
@[simp] theorem State.nextSetChannel_resetIn : s.nextSetChannel.2.resetIn = s.resetIn := by rw [State.nextSetChannel_frame]
@[simp] theorem State.nextSetChannel_transmits : s.nextSetChannel.2.transmits = s.transmits := by rw [State.nextSetChannel_frame]
@[simp] theorem State.nextSetChannel_parses : s.nextSetChannel.2.parses = s.parses := by rw [State.nextSetChannel_frame]
@[simp] theorem State.nextSetChannel_handled : s.nextSetChannel.2.handled = s.handled := by rw [State.nextSetChannel_frame]
@[simp] theorem State.nextSetChannel_out : s.nextSetChannel.2.out = s.out := by rw [State.nextSetChannel_frame]
@[simp] theorem State.nextSetChannel_ticket : s.nextSetChannel.2.ticket = s.ticket := by rw [State.nextSetChannel_frame]
@[simp] theorem State.nextSetChannel_sched : s.nextSetChannel.2.sched = s.sched := by rw [State.nextSetChannel_frame]
@[simp] theorem State.nextSetChannel_burst : s.nextSetChannel.2.burst = s.burst := by rw [State.nextSetChannel_frame]
@[simp] theorem State.nextSetChannel_seqs : s.nextSetChannel.2.seqs = s.seqs := by rw [State.nextSetChannel_frame]
@[simp] theorem State.nextSetChannel_clones : s.nextSetChannel.2.clones = s.clones := by rw [State.nextSetChannel_frame]

/-! ## nextTransmit -/

/-- A scripted answer is given first; nothing else of the state is touched. -/
theorem State.nextTransmit_cons (b) (bs) (h : s.transmits = b :: bs) : s.nextTransmit = (b, { s with transmits := bs }) := by
  simp [State.nextTransmit, h]

/-- The whole effect of the draw on the state. -/
theorem State.nextTransmit_frame : s.nextTransmit.2 = { s with transmits := s.nextTransmit.2.transmits, drawn := s.nextTransmit.2.drawn } := by
  unfold State.nextTransmit; split <;> rfl

@[simp] theorem State.nextTransmit_cfg : s.nextTransmit.2.cfg = s.cfg := by rw [State.nextTransmit_frame]
@[simp] theorem State.nextTransmit_life : s.nextTransmit.2.life = s.life := by rw [State.nextTransmit_frame]
@[simp] theorem State.nextTransmit_fatalCause : s.nextTransmit.2.fatalCause = s.fatalCause := by rw [State.nextTransmit_frame]
@[simp] theorem State.nextTransmit_curChannel : s.nextTransmit.2.curChannel = s.curChannel := by rw [State.nextTransmit_frame]
@[simp] theorem State.nextTransmit_filter : s.nextTransmit.2.filter = s.filter := by rw [State.nextTransmit_frame]
@[simp] theorem State.nextTransmit_wq : s.nextTransmit.2.wq = s.wq := by rw [State.nextTransmit_frame]
@[simp] theorem State.nextTransmit_work : s.nextTransmit.2.work = s.work := by rw [State.nextTransmit_frame]
@[simp] theorem State.nextTransmit_cntBadcsum : s.nextTransmit.2.cntBadcsum = s.cntBadcsum := by rw [State.nextTransmit_frame]
@[simp] theorem State.nextTransmit_cntMalformed : s.nextTransmit.2.cntMalformed = s.cntMalformed := by rw [State.nextTransmit_frame]
@[simp] theorem State.nextTransmit_slots : s.nextTransmit.2.slots = s.slots := by rw [State.nextTransmit_frame]
@[simp] theorem State.nextTransmit_rx : s.nextTransmit.2.rx = s.rx := by rw [State.nextTransmit_frame]
@[simp] theorem State.nextTransmit_tx : s.nextTransmit.2.tx = s.tx := by rw [State.nextTransmit_frame]
@[simp] theorem State.nextTransmit_host : s.nextTransmit.2.host = s.host := by rw [State.nextTransmit_frame]
@[simp] theorem State.nextTransmit_cmdIn : s.nextTransmit.2.cmdIn = s.cmdIn := by rw [State.nextTransmit_frame]
@[simp] theorem State.nextTransmit_phyIn : s.nextTransmit.2.phyIn = s.phyIn := by rw [State.nextTransmit_frame]
@[simp] theorem State.nextTransmit_resetIn : s.nextTransmit.2.resetIn = s.resetIn := by rw [State.nextTransmit_frame]
@[simp] theorem State.nextTransmit_setChans : s.nextTransmit.2.setChans = s.setChans := by rw [State.nextTransmit_frame]
@[simp] theorem State.nextTransmit_parses : s.nextTransmit.2.parses = s.parses := by rw [State.nextTransmit_frame]
@[simp] theorem State.nextTransmit_handled : s.nextTransmit.2.handled = s.handled := by rw [State.nextTransmit_frame]
@[simp] theorem State.nextTransmit_out : s.nextTransmit.2.out = s.out := by rw [State.nextTransmit_frame]
@[simp] theorem State.nextTransmit_ticket : s.nextTransmit.2.ticket = s.ticket := by rw [State.nextTransmit_frame]
@[simp] theorem State.nextTransmit_sched : s.nextTransmit.2.sched = s.sched := by rw [State.nextTransmit_frame]
@[simp] theorem State.nextTransmit_burst : s.nextTransmit.2.burst = s.burst := by rw [State.nextTransmit_frame]
@[simp] theorem State.nextTransmit_seqs : s.nextTransmit.2.seqs = s.seqs := by rw [State.nextTransmit_frame]
@[simp] theorem State.nextTransmit_clones : s.nextTransmit.2.clones = s.clones := by rw [State.nextTransmit_frame]

/-! ## nextParse -/

/-- A scripted answer is given first; nothing else of the state is touched. -/
theorem State.nextParse_cons (b) (bs) (h : s.parses = b :: bs) : s.nextParse = (b, { s with parses := bs }) := by
  simp [State.nextParse, h]

/-- The whole effect of the draw on the state. -/
theorem State.nextParse_frame : s.nextParse.2 = { s with parses := s.nextParse.2.parses, drawn := s.nextParse.2.drawn } := by
  unfold State.nextParse; split <;> rfl

@[simp] theorem State.nextParse_cfg : s.nextParse.2.cfg = s.cfg := by rw [State.nextParse_frame]
@[simp] theorem State.nextParse_life : s.nextParse.2.life = s.life := by rw [State.nextParse_frame]
@[simp] theorem State.nextParse_fatalCause : s.nextParse.2.fatalCause = s.fatalCause := by rw [State.nextParse_frame]
@[simp] theorem State.nextParse_curChannel : s.nextParse.2.curChannel = s.curChannel := by rw [State.nextParse_frame]
@[simp] theorem State.nextParse_filter : s.nextParse.2.filter = s.filter := by rw [State.nextParse_frame]
@[simp] theorem State.nextParse_wq : s.nextParse.2.wq = s.wq := by rw [State.nextParse_frame]
@[simp] theorem State.nextParse_work : s.nextParse.2.work = s.work := by rw [State.nextParse_frame]
@[simp] theorem State.nextParse_cntBadcsum : s.nextParse.2.cntBadcsum = s.cntBadcsum := by rw [State.nextParse_frame]
@[simp] theorem State.nextParse_cntMalformed : s.nextParse.2.cntMalformed = s.cntMalformed := by rw [State.nextParse_frame]
@[simp] theorem State.nextParse_slots : s.nextParse.2.slots = s.slots := by rw [State.nextParse_frame]
@[simp] theorem State.nextParse_rx : s.nextParse.2.rx = s.rx := by rw [State.nextParse_frame]
@[simp] theorem State.nextParse_tx : s.nextParse.2.tx = s.tx := by rw [State.nextParse_frame]
@[simp] theorem State.nextParse_host : s.nextParse.2.host = s.host := by rw [State.nextParse_frame]
@[simp] theorem State.nextParse_cmdIn : s.nextParse.2.cmdIn = s.cmdIn := by rw [State.nextParse_frame]
@[simp] theorem State.nextParse_phyIn : s.nextParse.2.phyIn = s.phyIn := by rw [State.nextParse_frame]
@[simp] theorem State.nextParse_resetIn : s.nextParse.2.resetIn = s.resetIn := by rw [State.nextParse_frame]
@[simp] theorem State.nextParse_setChans : s.nextParse.2.setChans = s.setChans := by rw [State.nextParse_frame]
@[simp] theorem State.nextParse_transmits : s.nextParse.2.transmits = s.transmits := by rw [State.nextParse_frame]
@[simp] theorem State.nextParse_handled : s.nextParse.2.handled = s.handled := by rw [State.nextParse_frame]
@[simp] theorem State.nextParse_out : s.nextParse.2.out = s.out := by rw [State.nextParse_frame]
@[simp] theorem State.nextParse_ticket : s.nextParse.2.ticket = s.ticket := by rw [State.nextParse_frame]
@[simp] theorem State.nextParse_sched : s.nextParse.2.sched = s.sched := by rw [State.nextParse_frame]
@[simp] theorem State.nextParse_burst : s.nextParse.2.burst = s.burst := by rw [State.nextParse_frame]
@[simp] theorem State.nextParse_seqs : s.nextParse.2.seqs = s.seqs := by rw [State.nextParse_frame]
@[simp] theorem State.nextParse_clones : s.nextParse.2.clones = s.clones := by rw [State.nextParse_frame]

/-! ## nextHandled -/

/-- A scripted answer is given first; nothing else of the state is touched. -/
theorem State.nextHandled_cons (b) (bs) (h : s.handled = b :: bs) : s.nextHandled = (b, { s with handled := bs }) := by
  simp [State.nextHandled, h]

/-- The whole effect of the draw on the state. -/
theorem State.nextHandled_frame : s.nextHandled.2 = { s with handled := s.nextHandled.2.handled, drawn := s.nextHandled.2.drawn } := by
  unfold State.nextHandled; split <;> rfl

@[simp] theorem State.nextHandled_cfg : s.nextHandled.2.cfg = s.cfg := by rw [State.nextHandled_frame]
@[simp] theorem State.nextHandled_life : s.nextHandled.2.life = s.life := by rw [State.nextHandled_frame]
@[simp] theorem State.nextHandled_fatalCause : s.nextHandled.2.fatalCause = s.fatalCause := by rw [State.nextHandled_frame]
@[simp] theorem State.nextHandled_curChannel : s.nextHandled.2.curChannel = s.curChannel := by rw [State.nextHandled_frame]
@[simp] theorem State.nextHandled_filter : s.nextHandled.2.filter = s.filter := by rw [State.nextHandled_frame]
@[simp] theorem State.nextHandled_wq : s.nextHandled.2.wq = s.wq := by rw [State.nextHandled_frame]
@[simp] theorem State.nextHandled_work : s.nextHandled.2.work = s.work := by rw [State.nextHandled_frame]
@[simp] theorem State.nextHandled_cntBadcsum : s.nextHandled.2.cntBadcsum = s.cntBadcsum := by rw [State.nextHandled_frame]
@[simp] theorem State.nextHandled_cntMalformed : s.nextHandled.2.cntMalformed = s.cntMalformed := by rw [State.nextHandled_frame]
@[simp] theorem State.nextHandled_slots : s.nextHandled.2.slots = s.slots := by rw [State.nextHandled_frame]
@[simp] theorem State.nextHandled_rx : s.nextHandled.2.rx = s.rx := by rw [State.nextHandled_frame]
@[simp] theorem State.nextHandled_tx : s.nextHandled.2.tx = s.tx := by rw [State.nextHandled_frame]
@[simp] theorem State.nextHandled_host : s.nextHandled.2.host = s.host := by rw [State.nextHandled_frame]
@[simp] theorem State.nextHandled_cmdIn : s.nextHandled.2.cmdIn = s.cmdIn := by rw [State.nextHandled_frame]
@[simp] theorem State.nextHandled_phyIn : s.nextHandled.2.phyIn = s.phyIn := by rw [State.nextHandled_frame]
@[simp] theorem State.nextHandled_resetIn : s.nextHandled.2.resetIn = s.resetIn := by rw [State.nextHandled_frame]
@[simp] theorem State.nextHandled_setChans : s.nextHandled.2.setChans = s.setChans := by rw [State.nextHandled_frame]
@[simp] theorem State.nextHandled_transmits : s.nextHandled.2.transmits = s.transmits := by rw [State.nextHandled_frame]
@[simp] theorem State.nextHandled_parses : s.nextHandled.2.parses = s.parses := by rw [State.nextHandled_frame]
@[simp] theorem State.nextHandled_out : s.nextHandled.2.out = s.out := by rw [State.nextHandled_frame]
@[simp] theorem State.nextHandled_ticket : s.nextHandled.2.ticket = s.ticket := by rw [State.nextHandled_frame]
@[simp] theorem State.nextHandled_sched : s.nextHandled.2.sched = s.sched := by rw [State.nextHandled_frame]
@[simp] theorem State.nextHandled_burst : s.nextHandled.2.burst = s.burst := by rw [State.nextHandled_frame]
@[simp] theorem State.nextHandled_seqs : s.nextHandled.2.seqs = s.seqs := by rw [State.nextHandled_frame]
@[simp] theorem State.nextHandled_clones : s.nextHandled.2.clones = s.clones := by rw [State.nextHandled_frame]

end Sys2Proof.Machine
end

