-- ==== Sys2Proof/Laws/Ops.lean ====
section
/-! SUPPORT. One lemma per shared operation that says once what it gives, for the proofs to cite instead of unfolding it:
outcomes, buffers, the handle check, the interface bank, the traversal set, the work queue, reordered lists. -/

namespace Sys2Proof.Machine

/-! ## Outcomes -/

@[simp] theorem andThen_next (s : State) (f : State → Host.Outcome State Fault Refusal) :
    andThen (.next s) f = f s := rfl

@[simp] theorem andThen_fault (r : Fault) (f : State → Host.Outcome State Fault Refusal) :
    andThen (.fault r) f = .fault r := rfl

@[simp] theorem andThen_refused (r : Refusal) (f : State → Host.Outcome State Fault Refusal) :
    andThen (.refused r) f = .refused r := rfl

/-- A sequence that answers a next state went through one. -/
theorem andThen_eq_next {o : Host.Outcome State Fault Refusal} {f : State → Host.Outcome State Fault Refusal} {t : State}
    (h : andThen o f = .next t) : ∃ u, o = .next u ∧ f u = .next t := by
  cases o with
  | next s => exact ⟨s, rfl, h⟩
  | fault r => simp at h
  | refused r => simp at h

/-! ## Counts of a configured width -/

/-- A drop counter stays within `CNT_WIDTH` bits (R5, R27). -/
theorem nextCount_lt (cfg : Config) (n : Counter) : nextCount cfg n < 2 ^ cfg.cntWidth :=
  Nat.mod_lt _ (Nat.two_pow_pos _)

/-- A generation stays within `GEN_WIDTH` bits (R5, R220). -/
theorem nextGen_lt (cfg : Config) (g : Byte) : (nextGen cfg g).toNat < 2 ^ cfg.genWidth := by
  have h : (g.toNat + 1) % 2 ^ cfg.genWidth < 2 ^ cfg.genWidth := Nat.mod_lt _ (Nat.two_pow_pos _)
  unfold nextGen
  rw [BitVec.toNat_ofNat]
  exact Nat.lt_of_le_of_lt (Nat.mod_le _ _) h

/-! ## Buffers -/

theorem memWrite_length (buf v : List Byte) (off : Nat) (h : off + v.length ≤ buf.length) :
    (memWrite buf off v).length = buf.length := by
  simp [memWrite]; omega

/-- A byte outside the range written to is unchanged. -/
theorem memWrite_outside (buf v : List Byte) (off k : Nat) (h : off + v.length ≤ buf.length)
    (hk : k < off ∨ off + v.length ≤ k) : byteAt (memWrite buf off v) k = byteAt buf k := by
  have ho : off ≤ buf.length := by omega
  rcases hk with hk | hk
  · simp [byteAt, memWrite, List.getElem?_append, hk, ho, Nat.lt_of_lt_of_le hk ho]
  · have h1 : ¬ k < off := by omega
    have h2 : ¬ k - off < v.length := by omega
    simp [byteAt, memWrite, List.getElem?_append, ho, h1, h2]
    congr 2
    omega

/-- A byte inside the range written to is the byte written. -/
theorem memWrite_inside (buf v : List Byte) (off k : Nat) (h : off ≤ buf.length) (hk : k < v.length) :
    byteAt (memWrite buf off v) (off + k) = byteAt v k := by
  simp [byteAt, memWrite, List.getElem?_append, h, hk]

theorem readHalf_eq_some {buf : List Byte} {len off : Nat} {v : Half} :
    readHalf buf len off = some v ↔ off + 2 ≤ len ∧ v = le16 (byteAt buf off) (byteAt buf (off + 1)) := by
  unfold readHalf
  split
  · simp; omega
  · simp only [Option.some.injEq]; constructor
    · intro h; exact ⟨by omega, h.symm⟩
    · intro h; exact h.2.symm

theorem readHalf_eq_none {buf : List Byte} {len off : Nat} : readHalf buf len off = none ↔ len < off + 2 := by
  unfold readHalf; split <;> simp <;> omega

theorem readLong_eq_none {buf : List Byte} {len off : Nat} : readLong buf len off = none ↔ len < off + 8 := by
  unfold readLong; split <;> simp <;> omega

theorem readLong_eq_some {buf : List Byte} {len off : Nat} {a : LongAddr} :
    readLong buf len off = some a ↔ off + 8 ≤ len ∧
      a = ⟨byteAt buf off, byteAt buf (off + 1), byteAt buf (off + 2), byteAt buf (off + 3), byteAt buf (off + 4),
        byteAt buf (off + 5), byteAt buf (off + 6), byteAt buf (off + 7)⟩ := by
  unfold readLong
  split
  · simp; omega
  · simp only [Option.some.injEq]; constructor
    · intro h; exact ⟨by omega, h.symm⟩
    · intro h; exact h.2.symm

/-! ## Byte order -/

theorem le16_toNat (a b : Byte) : (le16 a b).toNat = a.toNat + 256 * b.toNat := by
  unfold le16
  refine Eq.trans (BitVec.toNat_append b a) ?_
  rw [Nat.shiftLeft_eq, Nat.mul_comm, ← Nat.two_pow_add_eq_or_of_lt (by have := a.isLt; simpa using this)]
  omega

theorem lo_toNat (v : Half) : (lo v).toNat = v.toNat % 256 := by simp [lo]

theorem hi_toNat (v : Half) : (hi v).toNat = v.toNat / 256 := by
  simp [hi, Nat.shiftRight_eq_div_pow]; have := v.isLt; omega

@[simp] theorem le16_lo_hi (v : Half) : le16 (lo v) (hi v) = v := by
  apply BitVec.eq_of_toNat_eq; rw [le16_toNat, lo_toNat, hi_toNat]; omega

@[simp] theorem lo_le16 (a b : Byte) : lo (le16 a b) = a := by
  apply BitVec.eq_of_toNat_eq; rw [lo_toNat, le16_toNat]; have := a.isLt; omega

@[simp] theorem hi_le16 (a b : Byte) : hi (le16 a b) = b := by
  apply BitVec.eq_of_toNat_eq; rw [hi_toNat, le16_toNat]; have := a.isLt; omega

@[simp] theorem LongAddr.rev8_rev8 (a : LongAddr) : a.rev8.rev8 = a := rfl

@[simp] theorem LongAddr.bytes_length (a : LongAddr) : a.bytes.length = 8 := rfl

@[simp] theorem halfBytes_length (v : Half) : (halfBytes v).length = 2 := rfl

@[simp] theorem valueBytes_length (v : Value) : (valueBytes v).length = 8 := rfl

/-! ## The handle check and the interface bank -/

/-- `ok(h)`: the handle names a bound slot of the same generation (R33). -/
theorem State.ifaceOf_eq_some {s : State} {h : Handle} {i : Iface} :
    s.ifaceOf h = some i ↔ s.slots[h.slot.toNat]? = some ⟨h.gen, .bound i⟩ := by
  unfold State.ifaceOf
  cases hs : s.slots[h.slot.toNat]? with
  | none => simp
  | some sl =>
    obtain ⟨g, o⟩ := sl
    cases o with
    | free => simp
    | unlinked j => simp
    | bound j =>
      by_cases hg : g = h.gen
      · subst hg; simp
      · simp [hg]

theorem State.ifaceOf_eq_none {s : State} {h : Handle} :
    s.ifaceOf h = none ↔ ∀ i, s.slots[h.slot.toNat]? ≠ some ⟨h.gen, .bound i⟩ := by
  constructor
  · intro hn i hi
    rw [State.ifaceOf_eq_some.2 hi] at hn
    simp at hn
  · intro hn
    cases hi : s.ifaceOf h with
    | none => rfl
    | some i => exact absurd (State.ifaceOf_eq_some.1 hi) (hn i)

theorem State.handleOk_iff {s : State} {h : Handle} : s.handleOk h = true ↔ ∃ i, s.ifaceOf h = some i := by
  unfold State.handleOk
  cases s.ifaceOf h <;> simp

/-- The handle check reads the bank only. -/
theorem State.ifaceOf_congr {s t : State} (h : Handle) (e : t.slots = s.slots) : t.ifaceOf h = s.ifaceOf h := by
  unfold State.ifaceOf; rw [e]

/-- `freeSlot` is the lowest-numbered reusable slot (R212). -/
theorem State.freeSlot_eq_some {s : State} {n : Nat} (h : s.freeSlot = some n) :
    (∃ g, s.slots[n]? = some ⟨g, .free⟩) ∧ ∀ m < n, ∃ sl, s.slots[m]? = some sl ∧ sl.occ ≠ .free := by
  unfold State.freeSlot at h
  rw [List.findIdx?_eq_some_iff_getElem] at h
  obtain ⟨hn, hp, hm⟩ := h
  refine ⟨?_, ?_⟩
  · rw [List.getElem?_eq_getElem hn]
    generalize s.slots[n] = sl at *
    obtain ⟨g, o⟩ := sl
    cases o with
    | free => exact ⟨g, rfl⟩
    | bound i => simp [Slot.reusable] at hp
    | unlinked i => simp [Slot.reusable] at hp
  · intro m hmn
    have hml : m < s.slots.length := by omega
    have := hm m hmn
    refine ⟨s.slots[m], List.getElem?_eq_getElem hml, ?_⟩
    intro hf
    simp [Slot.reusable, hf] at this

/-- No slot is reusable exactly when none is free. -/
theorem State.freeSlot_eq_none {s : State} : s.freeSlot = none ↔ ∀ sl ∈ s.slots, sl.occ ≠ .free := by
  unfold State.freeSlot
  rw [List.findIdx?_eq_none_iff]
  constructor
  · intro h sl hs hf
    have := h sl hs
    simp [Slot.reusable, hf] at this
  · intro h sl hs
    have := h sl hs
    unfold Slot.reusable
    split <;> simp_all

/-- A slot number is listed as bound exactly when the slot is. -/
theorem State.mem_boundSlots {s : State} {n : Nat} :
    n ∈ s.boundSlots ↔ ∃ g i, s.slots[n]? = some ⟨g, .bound i⟩ := by
  unfold State.boundSlots
  simp only [List.mem_filter, List.mem_range]
  constructor
  · rintro ⟨hn, h⟩
    rw [List.getElem?_eq_getElem hn] at h ⊢
    generalize s.slots[n] = sl at *
    obtain ⟨g, o⟩ := sl
    cases o with
    | bound i => exact ⟨g, i, rfl⟩
    | free => simp [Slot.valid] at h
    | unlinked i => simp [Slot.valid] at h
  · rintro ⟨g, i, h⟩
    refine ⟨?_, by rw [h]; rfl⟩
    exact (List.getElem?_eq_some_iff.1 h).1

/-- Unlinking a slot writes that slot only. -/
theorem State.unlink_frame (s : State) (n : Nat) : s.unlink n = { s with slots := (s.unlink n).slots } := by
  unfold State.unlink; split <;> rfl

/-- Vacating a slot writes that slot only. -/
theorem State.vacate_frame (s : State) (n : Nat) : s.vacate n = { s with slots := (s.vacate n).slots } := by
  unfold State.vacate; split <;> rfl

@[simp] theorem State.unlink_slots_length (s : State) (n : Nat) : (s.unlink n).slots.length = s.slots.length := by
  unfold State.unlink; split <;> simp

@[simp] theorem State.vacate_slots_length (s : State) (n : Nat) : (s.vacate n).slots.length = s.slots.length := by
  unfold State.vacate; split <;> simp

theorem State.unlink_slots_of_bound {s : State} {n : Nat} {g : Byte} {i : Iface}
    (h : s.slots[n]? = some ⟨g, .bound i⟩) : (s.unlink n).slots = s.slots.set n ⟨nextGen s.cfg g, .unlinked i⟩ := by
  simp [State.unlink, h, Slot.unlink]

/-! ## The traversal set -/

/-- Only the RX agent's frame holds slots (R28). -/
theorem State.trav_congr {s t : State} (e : t.rx = s.rx) : t.trav = s.trav := by unfold State.trav; rw [e]

theorem State.holds_congr {s t : State} (n : Nat) (e : t.rx = s.rx) : t.holds n = s.holds n := by
  unfold State.holds; rw [State.trav_congr e]

theorem State.holds_eq_true {s : State} {n : Nat} : s.holds n = true ↔ n ∈ s.trav.flatten := by
  simp [State.holds, List.mem_flatten]

/-! ## The handles of a frame -/

/-- Every slot taken but the last gets a clone still to be made, the last one the original (R264, R265). -/
theorem handlesOf_append (o : Copy) (init : List Nat) (last : Nat) :
    handlesOf o (init ++ [last]) = init.map (fun n => ⟨n, false, o, .clone⟩) ++ [⟨last, true, o, .classify⟩] := by
  induction init with
  | nil => rfl
  | cons a l ih =>
    cases l with
    | nil => rfl
    | cons b l => simpa [handlesOf] using ih

/-- One handle for each slot taken, in their order (R265). -/
@[simp] theorem handlesOf_slots (o : Copy) (taken : List Nat) : (handlesOf o taken).map HandleCtx.slot = taken := by
  induction taken with
  | nil => rfl
  | cons a l ih => cases l with
    | nil => rfl
    | cons b l => simpa [handlesOf] using ih

@[simp] theorem RxCtx.md_fanout (c : RxCtx) (md : Md) (todo taken : List Nat) :
    ({ c with st := .fanout md todo taken } : RxCtx).md = some md := rfl

/-- `RXC.MD` is the metadata of the original's handle (R43). -/
theorem RxCtx.md_original (c : RxCtx) (h : HandleCtx) (rest : List HandleCtx) (ho : h.original = true) :
    ({ c with st := .handling (h :: rest) } : RxCtx).md = some h.copy.md := by
  simp [RxCtx.md, ho]

/-- A clone's handle leaves `RXC.MD` to the others (R43). -/
theorem RxCtx.md_clone (c : RxCtx) (h : HandleCtx) (rest : List HandleCtx) (ho : h.original = false) :
    ({ c with st := .handling (h :: rest) } : RxCtx).md = ({ c with st := .handling rest } : RxCtx).md := by
  simp [RxCtx.md, ho]

/-! ## Frames from the radio -/

/-- A frame within `MAX_FRAME` bytes is received (R250, R251). -/
theorem takeFrame_received {s : State} {f : List Byte} {rest : List (List Byte)} (h : s.phyIn = f :: rest)
    (hf : f.length ≤ 127) : takeFrame s = receiveFrame f { s with phyIn := rest } := by
  simp [takeFrame, h, maxFrame, hf]

/-- A longer entry is no transaction of the port: it is taken off the list, and that is all (R251, log 28). -/
theorem takeFrame_dropped {s : State} {f : List Byte} {rest : List (List Byte)} (h : s.phyIn = f :: rest)
    (hf : 127 < f.length) : takeFrame s = .next { s with phyIn := rest } := by
  simp [takeFrame, h, maxFrame, Nat.not_le.2 hf]

/-! ## The work queue -/

theorem State.wqBusy_eq_false {s : State} : s.wqBusy = false ↔ s.work = .idle := by
  simp [State.wqBusy]

theorem State.wqFull_eq_true {s : State} : s.wqFull = true ↔ s.cfg.wqDepth ≤ s.wq.length := by
  simp [State.wqFull]

theorem State.running_eq_true {s : State} : s.running = true ↔ s.life = .live ∨ s.life = .draining := by
  simp [State.running]

/-! ## Reordered lists -/

/-- Bringing an element to the front permutes the list. -/
theorem toFront_perm {α : Type} (l : List α) (j : Nat) : (toFront l j).Perm l := by
  unfold toFront
  split
  · rename_i x hx
    obtain ⟨hj, rfl⟩ := List.getElem?_eq_some_iff.1 hx
    exact List.getElem_cons_eraseIdx_perm hj
  · exact List.Perm.refl l

/-- Moving an element to the end permutes the list. -/
theorem toBack_perm {α : Type} (l : List α) (j : Nat) : (toBack l j).Perm l := by
  unfold toBack
  split
  · rename_i x hx
    obtain ⟨hj, rfl⟩ := List.getElem?_eq_some_iff.1 hx
    exact (List.perm_append_singleton _ _).trans (List.getElem_cons_eraseIdx_perm hj)
  · exact List.Perm.refl l

@[simp] theorem toFront_zero {α : Type} (l : List α) : toFront l 0 = l := by
  cases l <;> simp [toFront]

theorem toFront_eq_nil {α : Type} {l : List α} {j : Nat} : toFront l j = [] ↔ l = [] := by
  constructor
  · intro h
    have := toFront_perm l j
    rw [h] at this
    exact List.Perm.nil_eq this |>.symm
  · rintro rfl
    simp [toFront]

/-! ## Bursts -/

@[simp] theorem advanceHost_zero (s : State) : advanceHost 0 s = s := rfl

@[simp] theorem advanceTx_zero (k : Nat) (s : State) : advanceTx k 0 s = s := rfl

@[simp] theorem advanceWork_zero (s : State) : advanceWork 0 s = s := rfl

@[simp] theorem advanceRx_zero (s : State) : advanceRx 0 s = .next s := rfl

/-- A HOST agent that waits for no command's end takes no step. -/
theorem advanceHost_idle (n : Nat) (s : State) (h : s.host = .idle) : advanceHost n s = s := by
  induction n with
  | zero => rfl
  | succ n ih => simpa [advanceHost, hostMicro, h] using ih

/-- Without a frame the RX agent takes no step. -/
theorem advanceRx_none (n : Nat) (s : State) (h : s.rx = none) : advanceRx n s = .next s := by
  cases n with
  | zero => rfl
  | succ n => simp [advanceRx, h]

/-- A burst over a frame in progress starts with one atomic step of it. -/
theorem advanceRx_succ (n : Nat) (s : State) (c : RxCtx) (h : s.rx = some c) :
    advanceRx (n + 1) s = andThen (rxMicro s) (advanceRx n) := by
  simp [advanceRx, h]

/-- A call that is over takes no step. -/
theorem advanceTx_none (k n : Nat) (s : State) (h : s.txCall k = none) : advanceTx k n s = s := by
  induction n with
  | zero => rfl
  | succ n ih => simpa [advanceTx, txMicro, h] using ih

/-- A call that waits for its item takes no step (R311). -/
theorem advanceTx_waiting (k n : Nat) (s : State) (c : TxCtx) (h : s.txCall k = some c) (hw : c.stage = .waiting) :
    advanceTx k n s = s := by
  induction n with
  | zero => rfl
  | succ n ih => simpa [advanceTx, txMicro, h, hw] using ih

end Sys2Proof.Machine
end

