-- ==== Sys2Proof/Laws/Frames.lean ====
section
/-! SUPPORT. Which fields each agent's atomic step, and each burst of them, can write: everything else is as before. -/

namespace Sys2Proof.Machine

/-! ## HOST -/

/-- `t` differs from `s` at most in what the HOST agent's waits write: the life state, the bank, the agent's own stage
and the output (R220, R225, R228). -/
def State.HostFrame (s t : State) : Prop :=
  t = { s with life := t.life, slots := t.slots, host := t.host, out := t.out }

theorem State.HostFrame.trans {s t u : State} (h : s.HostFrame t) (g : t.HostFrame u) : s.HostFrame u := by
  unfold State.HostFrame at *; rw [g]; rw [h]

theorem hostMicro_frame (j : Nat) (s : State) : s.HostFrame (hostMicro j s) := by
  unfold hostMicro State.HostFrame
  split
  · rfl
  · split
    · rfl
    · simp only [State.answer_eq_emit]; unfold State.vacate; split <;> rfl
  · split
    · rfl
    · unfold State.unlink; split <;> rfl
  · split
    · rfl
    · unfold State.vacate; split <;> rfl
  · split <;> rfl
  · split <;> rfl
  · rfl

theorem advanceHost_frame (n : Nat) (s : State) : s.HostFrame (advanceHost n s) := by
  induction n generalizing s with
  | zero => rfl
  | succ n ih => exact (hostMicro_frame 0 s).trans (ih _)

/-! ## TX -/

/-- `t` differs from `s` at most in what a TX agent writes: the bank (a sequence counter), the work queue, the calls and
the output (R300). -/
def State.TxFrame (s t : State) : Prop :=
  t = { s with slots := t.slots, wq := t.wq, tx := t.tx, out := t.out }

theorem State.TxFrame.trans {s t u : State} (h : s.TxFrame t) (g : t.TxFrame u) : s.TxFrame u := by
  unfold State.TxFrame at *; rw [g]; rw [h]

theorem txMicro_frame (k : Nat) (s : State) : s.TxFrame (txMicro k s) := by
  unfold txMicro State.TxFrame
  split
  · rfl
  · split
    · unfold txNumber; split <;> rfl
    · rfl
    · unfold txHandOver; split
      · split <;> rfl
      · rfl
    · rfl
    · rfl

theorem advanceTx_frame (k n : Nat) (s : State) : s.TxFrame (advanceTx k n s) := by
  induction n generalizing s with
  | zero => rfl
  | succ n ih => exact (txMicro_frame k s).trans (ih _)

/-! ## WORK -/

/-- `t` differs from `s` at most in what the WORK agent writes: the channel, the filter, the queue, its own stage, the
call it reports to, the answers it consumes and the output (R314 to R320). -/
def State.WorkFrame (s t : State) : Prop :=
  t = { s with
    curChannel := t.curChannel, filter := t.filter, wq := t.wq, work := t.work, tx := t.tx, setChans := t.setChans
    transmits := t.transmits, out := t.out, drawn := t.drawn }

theorem State.WorkFrame.trans {s t u : State} (h : s.WorkFrame t) (g : t.WorkFrame u) : s.WorkFrame u := by
  unfold State.WorkFrame at *; rw [g]; rw [h]

theorem workMicro_frame (j : Nat) (s : State) : s.WorkFrame (workMicro j s) := by
  unfold workMicro State.WorkFrame
  split
  · split
    · unfold State.takeWork; split <;> rfl
    · rfl
  · unfold workStart
    split
    · split <;> rfl
    · split <;> rfl
  · rfl
  · split <;> (rw [State.nextSetChannel_frame]; rfl)
  · rfl
  · rfl
  · split <;> (rw [State.nextTransmit_frame]; rfl)
  · unfold workReport
    split
    · rfl
    · split <;> rfl
  · rfl
  · rfl
  · rfl

theorem advanceWork_frame (n : Nat) (s : State) : s.WorkFrame (advanceWork n s) := by
  induction n generalizing s with
  | zero => rfl
  | succ n ih => exact (workMicro_frame 0 s).trans (ih _)

/-! ## RX -/

/-- `t` differs from `s` at most in what the RX agent writes: the drop counters, the work queue (a synthesized
acknowledgement), the frame in progress, the output, and the answers and choices it consumes (R250). -/
def State.RxFrame (s t : State) : Prop :=
  t = { s with
    cntBadcsum := t.cntBadcsum, cntMalformed := t.cntMalformed, wq := t.wq, rx := t.rx, out := t.out
    parses := t.parses, handled := t.handled, clones := t.clones, drawn := t.drawn }

theorem State.RxFrame.refl (s : State) : s.RxFrame s := rfl

theorem State.RxFrame.trans {s t u : State} (h : s.RxFrame t) (g : t.RxFrame u) : s.RxFrame u := by
  unfold State.RxFrame at *; rw [g]; rw [h]

theorem State.RxFrame.setRx (s : State) (c : Option RxCtx) : s.RxFrame (s.setRx c) := rfl

theorem State.RxFrame.emit (s : State) (o : PortOut) : s.RxFrame (s.emit o) := rfl

theorem State.RxFrame.pushWork (s : State) (w : WorkItem) : s.RxFrame (s.pushWork w) := rfl

theorem State.RxFrame.queueAck (s : State) (ch seq : Byte) : s.RxFrame (s.queueAck ch seq) := by
  unfold State.queueAck; split
  · rfl
  · split <;> rfl

theorem dispatchOn_frame (type : BitVec 3) (h : HandleCtx) (s : State) : s.RxFrame (dispatchOn type h s).2 := by
  unfold dispatchOn; split
  · rfl
  · split
    · rfl
    · split
      · rfl
      · split <;> rfl

theorem rxHandle_frame {c : RxCtx} {h : HandleCtx} {rest : List HandleCtx} {s t : State}
    (e : rxHandle c h rest s = .next t) : s.RxFrame t := by
  unfold rxHandle at e
  split at e
  · split at e <;> (cases e; unfold State.RxFrame; simp only [State.putHandle_eq_setRx, State.dropHandle_eq_setRx]
                    rw [State.drawClone_frame]; rfl)
  · unfold rxClassify at e
    split at e
    · cases e
    · cases e; rfl
  · cases e; unfold rxAckCheck; split <;> rfl
  · cases e; rfl
  · cases e; exact (State.RxFrame.queueAck s _ _).trans rfl
  · cases e; exact (dispatchOn_frame _ _ _).trans rfl
  · cases e
    unfold State.RxFrame State.recordParsed
    split <;> (simp only [State.putHandle_eq_setRx]; rw [State.nextParse_frame]; rfl)
  · cases e
    unfold State.RxFrame
    simp only [State.putHandle_eq_setRx]; rw [State.nextHandled_frame]; rfl
  · cases e; rfl

/-- An RX step that answers a next state writes only what the RX agent may write. -/
theorem rxMicro_frame {s t : State} (e : rxMicro s = .next t) : s.RxFrame t := by
  unfold rxMicro at e
  split at e
  · cases e; rfl
  · split at e
    · cases e; unfold rxChecksum; split
      · rfl
      · split <;> rfl
    · cases e; unfold rxDecode; split
      · rfl
      · unfold State.noteMalformed; split <;> rfl
    · cases e; unfold rxFanout; split
      · rfl
      · split <;> rfl
    · cases e; rfl
    · exact rxHandle_frame e
    · cases e; unfold rxEnd; split <;> rfl
    · cases e; unfold rxEnd; split <;> rfl

theorem advanceRx_frame {n : Nat} {s t : State} (e : advanceRx n s = .next t) : s.RxFrame t := by
  induction n generalizing s with
  | zero => cases e; rfl
  | succ n ih =>
    unfold advanceRx at e
    split at e
    · cases e; rfl
    · obtain ⟨u, hu, hv⟩ := andThen_eq_next e
      exact (rxMicro_frame hu).trans (ih hv)

/-- Dispatching a copy writes only what the RX agent may write. -/
theorem State.dispatchBy_frame {s t : State} {d : HandleCtx → State → Stage × State}
    (hd : ∀ h, s.RxFrame (d h s).2) (e : s.dispatchBy d = .next t) : s.RxFrame t := by
  unfold State.dispatchBy at e
  split at e
  · exact ((hd _).trans (State.RxFrame.setRx _ _)).trans (advanceRx_frame e)
  · cases e; rfl

/-! ## The schedule -/

/-- Choosing whose turn it is touches only the schedule, the burst and the counter of free values. -/
theorem State.turn_frame (s : State) :
    s.turn.2 = { s with sched := s.turn.2.sched, burst := s.turn.2.burst, drawn := s.turn.2.drawn } := by
  unfold State.turn
  split
  · split <;> rfl
  · split <;> rfl

/-- The move chosen is an enabled one. -/
theorem State.turn_mem {s s' : State} {m : Move} (e : s.turn = (some m, s')) : m ∈ s.moves := by
  unfold State.turn at e
  split at e
  · split at e
    · rename_i h
      cases e
      simpa using h
    · cases e
  · split at e
    · rename_i h
      cases e
      exact List.mem_of_getElem? h
    · cases e

/-- A step is the move chosen, or nothing. -/
theorem step_eq {s : State} :
    step s = match s.turn with | (some m, s') => perform m s' | (none, s') => .next s' := rfl

end Sys2Proof.Machine
end

