-- ==== Sys2Proof/Laws/PerInstr.lean ====
section
/-! SUPPORT. Statements made per instruction, one lemma per constructor: an instruction has at least 2 bytes and fits in
`maxInstrBytes`, so `tableBytes` and `State.withFetchWord` can lay every instruction out. -/

namespace Sys2Proof.Laws.EncodeLength

/-- The encoding of a well-formed instruction has 2 to `maxInstrBytes` bytes. -/
def Statement (i : Instr) : Prop := WellFormed i = true → 2 ≤ (encode i).length ∧ (encode i).length ≤ maxInstrBytes

theorem addressOp_length (a : Address) : 1 ≤ (addressOp a).length ∧ (addressOp a).length ≤ 11 := by
  cases a <;> simp [addressOp, LongAddr.bytes, halfBytes]

theorem sourceOp_length (a : Option Address) : 1 ≤ (sourceOp a).length ∧ (sourceOp a).length ≤ 12 := by
  cases a with
  | none => simp [sourceOp]
  | some a => have := addressOp_length a; simp [sourceOp]; omega

theorem ifAdd (type : Byte) (hw : LongAddr) : Statement (.ifAdd type hw) := by
  intro _
  simp [encode, cmdHead, LongAddr.bytes, maxInstrBytes]

theorem ifRemove (h : Handle) : Statement (.ifRemove h) := by
  intro _
  simp [encode, cmdHead, maxInstrBytes]

theorem devUnregister : Statement (.devUnregister) := by
  intro _
  simp [encode, cmdHead, maxInstrBytes]

theorem devFree : Statement (.devFree) := by
  intro _
  simp [encode, cmdHead, maxInstrBytes]

theorem cfgRead (h : Handle) (reg : Byte) : Statement (.cfgRead h reg) := by
  intro _
  simp [encode, cmdHead, maxInstrBytes]

theorem cfgWrite (h : Handle) (reg : Byte) (value : Value) : Statement (.cfgWrite h reg value) := by
  intro _
  simp [encode, cmdHead, valueBytes, maxInstrBytes]

theorem decodeHdr (bytes : List Byte) : Statement (.decodeHdr bytes) := by
  intro h
  simp [WellFormed, lengthOk] at h
  simp [encode, cmdHead, countedOp, maxInstrBytes]
  omega

theorem encodeHdr (h : Handle) (type : Byte) (sec ackreq : Bool) (seq : Byte) (dst : Address) (src : Option Address) : Statement (.encodeHdr h type sec ackreq seq dst src) := by
  intro _
  have := addressOp_length dst
  have := sourceOp_length src
  simp [encode, cmdHead, maxInstrBytes]
  omega

theorem buildAck (seq : Byte) : Statement (.buildAck seq) := by
  intro _
  simp [encode, cmdHead, maxInstrBytes]

theorem crcCompute (bytes : List Byte) : Statement (.crcCompute bytes) := by
  intro h
  simp [WellFormed, lengthOk] at h
  simp [encode, cmdHead, countedOp, maxInstrBytes]
  omega

theorem crcAppend (bytes : List Byte) : Statement (.crcAppend bytes) := by
  intro h
  simp [WellFormed, lengthOk] at h
  simp [encode, cmdHead, countedOp, maxInstrBytes]
  omega

theorem crcVerify (bytes : List Byte) : Statement (.crcVerify bytes) := by
  intro h
  simp [WellFormed, lengthOk] at h
  simp [encode, cmdHead, countedOp, maxInstrBytes]
  omega

theorem classify (h : Handle) (dst : Address) (srcMode : Mode) : Statement (.classify h dst srcMode) := by
  intro _
  have := addressOp_length dst
  simp [encode, cmdHead, maxInstrBytes]
  omega

theorem rxFrame (bytes : List Byte) : Statement (.rxFrame bytes) := by
  intro h
  simp [WellFormed, lengthOk] at h
  simp [encode, cmdHead, countedOp, maxInstrBytes]
  omega

theorem txFrame (h : Handle) (type : Byte) (sec ackreq : Bool) (dst : Address) (src : Option Address)
    (payload : List Byte) : Statement (.txFrame h type sec ackreq dst src payload) := by
  intro h
  simp [WellFormed, lengthOk] at h
  have := addressOp_length dst
  have := sourceOp_length src
  simp [encode, cmdHead, countedOp, maxInstrBytes]
  omega

theorem frameBeacon (f : FrameCtl) : Statement (.frameBeacon f) := by
  intro _
  simp [encode, halfBytes, maxInstrBytes]

theorem frameData (f : FrameCtl) : Statement (.frameData f) := by
  intro _
  simp [encode, halfBytes, maxInstrBytes]

theorem frameAck (f : FrameCtl) : Statement (.frameAck f) := by
  intro _
  simp [encode, halfBytes, maxInstrBytes]

theorem frameMaccmd (f : FrameCtl) : Statement (.frameMaccmd f) := by
  intro _
  simp [encode, halfBytes, maxInstrBytes]

theorem frameUnrecognized (tt : BitVec 2) (f : FrameCtl) : Statement (.frameUnrecognized tt f) := by
  intro _
  simp [encode, halfBytes, maxInstrBytes]

end Sys2Proof.Laws.EncodeLength
end

