-- ==== Sys2Proof/Tests/Slice0.lean ====
section
/-! SUPPORT. Tests with expected results from spec/ (95_test_vectors.md and the encodings of 30_encoding.md), and for every
statement with hypotheses a concrete state and operands that meet them together. -/

namespace Sys2Proof.Tests

open Sys2Proof.Machine

/-! ## Small states (95_test_vectors, opening and part 4) -/

def hw : LongAddr := ⟨0x00#8, 0x11#8, 0x22#8, 0x33#8, 0x44#8, 0x55#8, 0x66#8, 0x77#8⟩
def hw2 : LongAddr := ⟨0xA0#8, 0xA1#8, 0xA2#8, 0xA3#8, 0xA4#8, 0xA5#8, 0xA6#8, 0xA7#8⟩
def ones : LongAddr := ⟨0xFF#8, 0xFF#8, 0xFF#8, 0xFF#8, 0xFF#8, 0xFF#8, 0xFF#8, 0xFF#8⟩
def h0 : Handle := ⟨0#8, 0#8⟩
def h1 : Handle := ⟨0#8, 1#8⟩
def iface0 : Iface := ⟨.ordinary, 0x1234#16, 0x0042#16, 11#8, hw, ones, 0xFF#8, 0x80#8, false⟩
def iface1 : Iface := ⟨.monitor, 0x1234#16, 0x0043#16, 0xFF#8, hw2, ones, 0x10#8, 0x20#8, false⟩
def cfgHw : Config := { Config.reference with hwAck := true }

/-- Interface (0,0) bound, the other slots free, the device on channel 11; `b` is the burst. -/
def one (b : Nat) : State :=
  { State.resetWith cfgHw with
    slots := [⟨0#8, .bound iface0⟩, ⟨0#8, .free⟩, ⟨0#8, .free⟩, ⟨0#8, .free⟩], curChannel := 11#8, burst := b, ticket := 1
    transmits := [.ok], setChans := [.ok], clones := [true], parses := [none], handled := [7], seqs := [0xFE#8, 0x80#8] }

/-- No interface bound. -/
def empty (b : Nat) : State := { one b with slots := List.replicate 4 Slot.reset }

/-- Two interfaces bound (program P2). -/
def two (b : Nat) : State :=
  { one b with slots := [⟨0#8, .bound iface0⟩, ⟨0#8, .bound iface1⟩, ⟨0#8, .free⟩, ⟨0#8, .free⟩] }

/-- The same state in another life state. -/
def inLife (l : Life) (s : State) : State := { s with life := l }

def frameRx1 : List Byte := [0x31#8, 0x22#8, 0x2A#8, 0x34#8, 0x12#8, 0x42#8, 0x00#8, 0x01#8, 0x00#8, 0x48#8, 0x69#8,
  0xD5#8, 0x38#8]

/-- The metadata of vector DE1. -/
def mdDe1 : Md := ⟨0x2231#16, 1#3, false, true, true, 2#2, 2#2, 0x2A#8, .short 0x1234#16 0x0042#16,
  .short 0x1234#16 0x0001#16, 9, none⟩

/-- A frame with one copy, for slot 0, at a stage. -/
def handling (st : Stage) (md : Md) : RxCtx :=
  ⟨.radio, frameRx1, 11, 9, .handling [⟨0, true, ⟨frameRx1, 11, md⟩, st⟩], []⟩

def mdHost : Md := { mdDe1 with scope := some .host }

/-- `s` with the frame of RX1 in its handle at a stage. -/
def atStage (st : Stage) (s : State) : State := { s with rx := some (handling st mdHost) }

def call0 : TxCtx := ⟨7, h0, 1#3, true, .short 0x1234#16 0x0001#16, .short 0x1234#16 0x0042#16, [0x48#8, 0x69#8],
  iface0.snap, TxBuf.fresh, .snapped⟩

def xmit0 : Xmit := ⟨[0x02#8, 0x00#8, 0x2A#8, 0xE0#8, 0x3B#8], 11#8, .ackSynth⟩

/-! ## Reading outcomes -/

/-- What a step put out, if it answered a next state. -/
def outOf (o : Host.Outcome State Fault Refusal) : Option (List PortOut) :=
  match o with
  | .next t => some t.out
  | .fault _ => none
  | .refused _ => none

/-- One value of the next state. -/
def look {α : Type} (o : Host.Outcome State Fault Refusal) (f : State → α) : Option α :=
  match o with
  | .next t => some (f t)
  | .fault _ => none
  | .refused _ => none

/-- The decoder's instruction. -/
def read? (p : Port) (bs : List Byte) : Option Instr :=
  match decode p bs with
  | .ok i => some i
  | .error _ => none

/-- The decoder's error. -/
def error? (p : Port) (bs : List Byte) : Option DecodeError :=
  match decode p bs with
  | .ok _ => none
  | .error e => some e

/-- A decoded header. -/
def header? (bs : List Byte) : Option Md :=
  match decodeHdr fcLayout bs bs.length with
  | .ok md => some md
  | .error _ => none

/-- A decode failure. -/
def headerError? (bs : List Byte) : Option HdrError :=
  match decodeHdr fcLayout bs bs.length with
  | .ok _ => none
  | .error (e, _) => some e

/-! ## WellFormed refuses: one ill-formed term for each check -/

def ctl (sec ip : Bool) (dam sam : BitVec 2) : FrameCtl := ⟨sec, false, ip, 0#2, dam, 0#2, sam, 0#2⟩

theorem test_wf_decode_hdr_length : WellFormed (.decodeHdr (List.replicate 128 0#8)) = false := by decide +kernel
theorem test_wf_crc_compute_length : WellFormed (.crcCompute (List.replicate 128 0#8)) = false := by decide +kernel
theorem test_wf_crc_append_length : WellFormed (.crcAppend (List.replicate 128 0#8)) = false := by decide +kernel
theorem test_wf_crc_verify_length : WellFormed (.crcVerify (List.replicate 128 0#8)) = false := by decide +kernel
theorem test_wf_rx_frame_length : WellFormed (.rxFrame (List.replicate 128 0#8)) = false := by decide +kernel
theorem test_wf_tx_payload_length :
    WellFormed (.txFrame h0 1#8 false false .none none (List.replicate 128 0#8)) = false := by decide +kernel
theorem test_wf_security : WellFormed (.frameData (ctl true false 2#2 2#2)) = false := by decide
theorem test_wf_destination_mode : WellFormed (.frameBeacon (ctl false false 1#2 2#2)) = false := by decide
theorem test_wf_source_mode : WellFormed (.frameMaccmd (ctl false false 2#2 1#2)) = false := by decide
theorem test_wf_combination : WellFormed (.frameUnrecognized 1#2 (ctl false true 0#2 2#2)) = false := by decide
theorem test_wf_ack_shape : WellFormed (.frameAck (ctl false false 2#2 0#2)) = false := by decide
theorem test_wf_config : Config.wf { Config.reference with nIf := 0 } = false ∧
    Config.wf { Config.reference with nIf := 257 } = false ∧ Config.wf { Config.reference with wqDepth := 0 } = false ∧
    Config.wf { Config.reference with cntWidth := 0 } = false ∧ Config.wf { Config.reference with cntWidth := 65 } = false ∧
    Config.wf { Config.reference with genWidth := 0 } = false ∧ Config.wf { Config.reference with genWidth := 9 } = false ∧
    Config.wf { Config.reference with chanNone := 0#8 } = false := by
  decide
/-- A device register uses no handle (R111). -/
theorem test_wf_cfg_handle : WellFormed (.cfgRead h1 0x0F#8) = false ∧ WellFormed (.cfgWrite ⟨1#8, 0#8⟩ 0x00#8 0#64) = false ∧
    WellFormed (.cfgRead h1 0x10#8) = true := by decide

/-! ## Decoding: words written from the spec's encodings (R93, R110 to R116; vectors G1, P5, G3, P1, DE1, E1, K1, RX1, T1) -/

theorem test_decode_if_add :
    read? .cmd [0x01#8, 0#8, 0#8, 0#8, 0x01#8, 0xA0#8, 0xA1#8, 0xA2#8, 0xA3#8, 0xA4#8, 0xA5#8, 0xA6#8, 0xA7#8] =
      some (.ifAdd 1#8 hw2) := by decide
theorem test_decode_if_remove : read? .cmd [0x02#8, 0x03#8, 0x01#8, 0#8] = some (.ifRemove ⟨3#8, 1#8⟩) := by decide
theorem test_decode_dev_unregister : read? .cmd [0x03#8, 0#8, 0#8, 0#8] = some .devUnregister := by decide
theorem test_decode_dev_free : read? .cmd [0x04#8, 0#8, 0#8, 0#8] = some .devFree := by decide
theorem test_decode_cfg_read : read? .cmd [0x05#8, 0#8, 0#8, 0x16#8] = some (.cfgRead h0 0x16#8) := by decide
theorem test_decode_cfg_write :
    read? .cmd [0x06#8, 0x01#8, 0x00#8, 0x12#8, 0x43#8, 0#8, 0#8, 0#8, 0#8, 0#8, 0#8, 0x80#8] =
      some (.cfgWrite ⟨1#8, 0#8⟩ 0x12#8 0x8000000000000043#64) := by decide
theorem test_decode_decode_hdr :
    read? .cmd [0x10#8, 0#8, 0#8, 0#8, 0x03#8, 0x02#8, 0x00#8, 0x05#8] = some (.decodeHdr [0x02#8, 0x00#8, 0x05#8]) := by
  decide
theorem test_decode_encode_hdr :
    read? .cmd [0x11#8, 0#8, 0x02#8, 0#8, 0x03#8, 0x01#8, 0x10#8, 0x02#8, 0x34#8, 0x12#8, 0x42#8, 0x00#8, 0x01#8, 0x00#8] =
      some (.encodeHdr ⟨0#8, 2#8⟩ 3#8 true false 0x10#8 (.short 0x1234#16 0x0042#16) (some .none)) := by decide
theorem test_decode_build_ack : read? .cmd [0x12#8, 0#8, 0#8, 0#8, 0x2A#8] = some (.buildAck 0x2A#8) := by decide
theorem test_decode_crc_compute : read? .cmd [0x18#8, 0#8, 0#8, 0#8, 0x01#8, 0xFF#8] = some (.crcCompute [0xFF#8]) := by
  decide
theorem test_decode_crc_append : read? .cmd [0x19#8, 0#8, 0#8, 0#8, 0x00#8] = some (.crcAppend []) := by decide
theorem test_decode_crc_verify :
    read? .cmd [0x1A#8, 0#8, 0#8, 0#8, 0x02#8, 0x12#8, 0x34#8] = some (.crcVerify [0x12#8, 0x34#8]) := by decide
theorem test_decode_classify :
    read? .cmd [0x20#8, 0#8, 0#8, 0#8, 0x03#8, 0xFF#8, 0xFF#8, 0x00#8, 0x11#8, 0x22#8, 0x33#8, 0x44#8, 0x55#8, 0x66#8,
      0x77#8, 0x00#8] = some (.classify h0 (.long 0xFFFF#16 hw) .none) := by decide
theorem test_decode_rx_frame :
    read? .cmd [0x30#8, 0#8, 0#8, 0#8, 0x05#8, 0x02#8, 0x00#8, 0x2A#8, 0xE0#8, 0x3B#8] =
      some (.rxFrame [0x02#8, 0x00#8, 0x2A#8, 0xE0#8, 0x3B#8]) := by decide
theorem test_decode_tx_frame :
    read? .cmd [0x38#8, 0#8, 0#8, 0#8, 0x00#8, 0x00#8, 0x02#8, 0xFF#8, 0xFF#8, 0xFF#8, 0xFF#8, 0x00#8, 0x01#8, 0xAA#8] =
      some (.txFrame h0 0#8 false false (.short 0xFFFF#16 0xFFFF#16) none [0xAA#8]) := by decide
theorem test_decode_frame_beacon :
    read? .phyRx [0x00#8, 0x22#8] = some (.frameBeacon ⟨false, false, false, 0#2, 2#2, 0#2, 2#2, 0#2⟩) := by decide
theorem test_decode_frame_data :
    read? .phyRx [0x01#8, 0x33#8] = some (.frameData ⟨false, false, false, 0#2, 3#2, 0#2, 3#2, 0#2⟩) := by decide
theorem test_decode_frame_ack :
    read? .phyRx [0xE2#8, 0xCC#8] = some (.frameAck ⟨false, false, true, 3#2, 0#2, 3#2, 0#2, 3#2⟩) := by decide
theorem test_decode_frame_maccmd :
    read? .phyRx [0x03#8, 0x02#8] = some (.frameMaccmd ⟨false, false, false, 0#2, 2#2, 0#2, 0#2, 0#2⟩) := by decide
theorem test_decode_frame_unrecognized :
    read? .phyRx [0x05#8, 0x00#8] = some (.frameUnrecognized 1#2 ⟨false, false, false, 0#2, 0#2, 0#2, 0#2, 0#2⟩) := by
  decide
theorem test_decode_refusals : error? .cmd [0x07#8, 0#8, 0#8, 0#8] = some .illegalCommand ∧
    error? .cmd [0x02#8, 0#8, 0#8, 0x01#8] = some .badOperand ∧
    error? .cmd [0x05#8, 0x01#8, 0#8, 0x01#8] = some .badOperand ∧
    error? .cmd [0x06#8, 0#8, 0x01#8, 0x0F#8, 0#8, 0#8, 0#8, 0#8, 0#8, 0#8, 0#8, 0#8] = some .badOperand ∧
    error? .cmd [0x10#8, 0#8, 0#8, 0#8, 0x80#8] = some .badOperand ∧
    error? .cmd [0x20#8, 0#8, 0#8, 0#8, 0x00#8, 0x04#8] = some .badOperand ∧
    error? .cmd [0x20#8, 0#8, 0#8, 0#8, 0x01#8, 0#8, 0#8, 0#8, 0#8, 0#8] = some .badOperand ∧
    error? .cmd [0x11#8, 0#8, 0#8, 0#8, 0x01#8, 0x04#8, 0#8, 0#8, 0#8] = some .badOperand ∧
    error? .phyRx [0x09#8, 0x00#8] = some (.frame .unsupportedFeature) := by decide

/-! ## Unit operations -/

theorem test_decode_hdr_de4 :
    header? [0x01#8, 0x33#8, 0x08#8, 0x34#8, 0x12#8, 0x77#8, 0x66#8, 0x55#8, 0x44#8, 0x33#8, 0x22#8, 0x11#8, 0x00#8, 0xCD#8,
      0xAB#8, 0xA7#8, 0xA6#8, 0xA5#8, 0xA4#8, 0xA3#8, 0xA2#8, 0xA1#8, 0xA0#8] =
      some ⟨0x3301#16, 1#3, false, false, false, 3#2, 3#2, 8#8, .long 0x1234#16 hw, .long 0xABCD#16 hw2, 23, none⟩ := by
  decide
/-- DF4, DF6, DF8, DF9, DF10, DF1. -/
theorem test_decode_hdr_failures : headerError? [0x39#8, 0x22#8, 0x2A#8] = some .unsupportedFeature ∧
    headerError? [0x01#8, 0x10#8, 0x01#8, 0#8, 0#8, 0#8, 0#8] = some .badAddrMode ∧
    headerError? [0x02#8, 0x20#8, 0x05#8, 0x34#8, 0x12#8, 0x42#8, 0x00#8] = some .badAckShape ∧
    headerError? [0x21#8, 0x20#8, 0x01#8, 0x01#8, 0x00#8] = some .badAddrCombo ∧
    headerError? [0x31#8, 0x22#8, 0x2A#8, 0x34#8, 0x12#8, 0x42#8, 0x00#8, 0x01#8] = some .truncated ∧
    headerError? [0x01#8, 0x00#8] = some .tooShort := by decide
/-- E8: the long source of the destination's PAN, compressed. -/
theorem test_encode_hdr_e8 :
    outOf (exec (.encodeHdr h0 1#8 false true 0x33#8 (.short 0x1234#16 0x0042#16) (some (.long 0x1234#16 hw))) (one 0)) =
      some [.response 1 [0#8, 15#8, 0x31#8, 0x32#8, 0x33#8, 0x34#8, 0x12#8, 0x42#8, 0x00#8, 0x77#8, 0x66#8, 0x55#8, 0x44#8,
        0x33#8, 0x22#8, 0x11#8, 0x00#8]] := by decide
/-- E5: equal PAN ids of 0xFFFF are not compressed. -/
theorem test_encode_hdr_e5 :
    outOf (exec (.encodeHdr h0 1#8 false false 0#8 (.short 0xFFFF#16 0xFFFF#16) (some (.long 0xFFFF#16 hw))) (one 0)) =
      some [.response 1 [0#8, 17#8, 0x01#8, 0x32#8, 0x00#8, 0xFF#8, 0xFF#8, 0xFF#8, 0xFF#8, 0xFF#8, 0xFF#8, 0x77#8, 0x66#8,
        0x55#8, 0x44#8, 0x33#8, 0x22#8, 0x11#8, 0x00#8]] := by decide
theorem test_build_ack : outOf (exec (.buildAck 0x2A#8) (one 0)) = some [.response 1 [0#8, 0x02#8, 0x00#8, 0x2A#8]] := by
  decide
/-- X8, response low byte first. -/
theorem test_crc_compute :
    outOf (exec (.crcCompute [0x31#8, 0x32#8, 0x33#8, 0x34#8, 0x35#8, 0x36#8, 0x37#8, 0x38#8, 0x39#8]) (one 0)) =
      some [.response 1 [0#8, 0x89#8, 0x21#8]] := by decide +kernel
/-- X5. -/
theorem test_crc_append : outOf (exec (.crcAppend [0x02#8, 0x00#8, 0x2A#8]) (one 0)) =
    some [.response 1 [0#8, 5#8, 0x02#8, 0x00#8, 0x2A#8, 0xE0#8, 0x3B#8]] := by decide +kernel
/-- X10 and X11. -/
theorem test_crc_verify :
    outOf (exec (.crcVerify [0x31#8, 0x22#8, 0x2A#8, 0x34#8, 0x12#8, 0x42#8, 0x00#8, 0x01#8, 0x00#8, 0x49#8, 0x69#8, 0xD5#8,
      0x38#8]) (one 0)) = some [.response 1 [0x01#8, 0#8]] ∧
    outOf (exec (.crcVerify []) (one 0)) = some [.response 1 [0x01#8, 0#8]] := by decide +kernel
/-- K10, K3, K14, and K17 with the fresh interface's PAN id. -/
theorem test_classify : outOf (exec (.classify h0 (.long 0x1234#16 ones) .short) (one 0)) = some [.response 1 [0#8, 1#8]] ∧
    outOf (exec (.classify h0 (.short 0x9999#16 0x0042#16) .short) (one 0)) = some [.response 1 [0#8, 2#8]] ∧
    outOf (exec (.classify h0 .none .short) (one 0)) = some [.response 1 [0#8, 2#8]] ∧
    scopeOf (.short 0x1234#16 0xFFFF#16) .short { iface0 with pan := 0xFFFF#16, short := 0xFFFF#16 } = .otherHost := by decide

/-! ## Registry and configuration -/

/-- G1. -/
theorem test_if_add : outOf (exec (.ifAdd 0#8 hw) (empty 0)) = some [.response 1 [0#8, 0#8, 0#8]] ∧
    look (exec (.ifAdd 0#8 hw) (empty 0)) (fun t => t.slots[0]?) = some (some ⟨0#8, .bound
      ⟨.ordinary, 0xFFFF#16, 0xFFFF#16, 0xFF#8, hw, ones, 0xFE#8, 0x80#8, false⟩⟩) := by decide
/-- G2. -/
theorem test_if_add_bad_type : outOf (exec (.ifAdd 2#8 hw) (empty 0)) = some [.response 1 [0x0F#8, 0#8]] := by decide
/-- P5 (b): the removed slot's generation is 1. -/
theorem test_if_remove : outOf (exec (.ifRemove h0) (one 1)) = some [.response 1 [0#8]] ∧
    look (exec (.ifRemove h0) (one 1)) (fun t => t.slots[0]?) = some (some ⟨1#8, .free⟩) := by decide
/-- P5 (c). -/
theorem test_dev_unregister : outOf (exec .devUnregister (two 8)) = some [.response 1 [0#8]] ∧
    look (exec .devUnregister (two 8)) (fun t => (t.life, t.slots[1]?)) = some (.released, some ⟨1#8, .free⟩) := by decide
/-- P5 (a). -/
theorem test_dev_free_fatal : outOf (exec .devFree (one 9)) =
    some [.event .fatalNonEmptyFree 1, .response 1 [0x12#8, 1#8]] := by decide
/-- P5 (b). -/
theorem test_dev_free : look (exec .devFree (empty 9)) (fun t => (t.life, t.out)) =
    some (.released, [.response 1 [0#8]]) := by decide
/-- P5 (a): the fatal status reads 7. -/
theorem test_cfg_read_status :
    outOf (exec (.cfgRead h0 0x01#8) { one 0 with life := .fatal, fatalCause := .nonEmptyFree }) =
      some [.response 1 [0#8, 7#8, 0#8, 0#8, 0#8, 0#8, 0#8, 0#8, 0#8]] := by decide
/-- G3: `IF_HWADDR`. -/
theorem test_cfg_read_hwaddr : outOf (exec (.cfgRead h0 0x14#8) (one 0)) =
    some [.response 1 [0#8, 0x00#8, 0x11#8, 0x22#8, 0x33#8, 0x44#8, 0x55#8, 0x66#8, 0x77#8]] := by decide
/-- R234: IF_SHORT takes the low 16 bits. -/
theorem test_cfg_write : look (exec (.cfgWrite h0 0x12#8 0xFFFF0043#64) (one 0)) (fun t => t.ifaceOf h0) =
    some (some { iface0 with short := 0x0043#16 }) := by decide

/-! ## Receive -/

/-- RX1: enqueued for interface 0, scope Host. -/
theorem test_rx_frame_data : outOf (exec (.rxFrame frameRx1) (one 100)) = some [
    .enqueue 0 ⟨frameRx1, 11, mdHost⟩, .response 1 [0#8, 0#8]] := by decide +kernel
/-- RX5: the wrong shape of an Ack is counted. -/
theorem test_rx_frame_malformed :
    look (exec (.rxFrame [0x02#8, 0x02#8, 0x05#8, 0x34#8, 0x12#8, 0x42#8, 0x00#8, 0x5C#8, 0x62#8]) (one 100))
      (fun t => (t.cntMalformed, t.cntBadcsum, t.out)) = some (1, 0, [.response 1 [0#8, 2#8]]) := by decide +kernel
theorem test_frame_beacon : outOf (exec (.frameBeacon (ctl false false 0#2 0#2)) (atStage .dispatch (one 0))) =
    some [.parse ⟨frameRx1, 11, mdHost⟩] := by decide
theorem test_frame_data : outOf (exec (.frameData (ctl false false 0#2 0#2)) (atStage .dispatch (one 0))) =
    some [.enqueue 0 ⟨frameRx1, 11, mdHost⟩] := by decide
theorem test_frame_ack : look (exec (.frameAck (ctl false false 0#2 0#2)) (atStage .dispatch (one 1)))
    (fun t => (t.out, t.rx.map RxCtx.outcomes)) = some ([], some [(0, .consumed)]) := by decide
theorem test_frame_maccmd : look (exec (.frameMaccmd (ctl false false 0#2 0#2)) (atStage .dispatch (one 2)))
    (fun t => (t.out, t.rx.map RxCtx.outcomes)) =
      some ([.handle 0 ⟨frameRx1, 11, mdHost⟩], some [(0, .delivered (some 7))]) := by decide
/-- RX9: the event's info is the type. -/
theorem test_frame_unrecognized :
    outOf (exec (.frameUnrecognized 1#2 (ctl false false 0#2 0#2)) (atStage .dispatch (one 0))) =
      some [.event .unsupportedFrameType 5] := by decide
/-- RX16: the synthesized acknowledgement. -/
theorem test_synthesized_ack : (State.queueAck (one 0) 11#8 0x33#8).wq =
    [.xmit ⟨[0x02#8, 0x00#8, 0x33#8, 0xA0#8, 0xB6#8], 11#8, .ackSynth⟩] := by decide +kernel

/-- R251, D38: 127 bytes of PHY_RX are received, 128 are no transaction of it. -/
theorem test_phy_length :
    look (perform .phy { one 0 with phyIn := [List.replicate 127 0#8] }) (fun t => (t.phyIn, t.rx.map RxCtx.len)) =
      some ([], some 127) ∧
    look (perform .phy { one 0 with phyIn := [List.replicate 128 0#8] }) (fun t => (t.phyIn, t.rx.map RxCtx.len)) =
      some ([], none) := by decide +kernel
/-- R220 and R27 at the end of a narrow width. -/
theorem test_widths : nextGen { cfgHw with genWidth := 2 } 3#8 = 0#8 ∧ nextGen cfgHw 255#8 = 0#8 ∧ nextGen cfgHw 3#8 = 4#8 ∧
    nextCount { cfgHw with cntWidth := 4 } 15 = 0 ∧ nextCount cfgHw 15 = 16 := by decide

/-! ## Transmit -/

/-- T1: the frame queued, and `dsn` after it. -/
theorem test_tx_frame :
    look (exec (.txFrame h0 1#8 false true (.short 0x1234#16 0x0001#16) none [0x48#8, 0x69#8]) (one 3))
      (fun t => (t.wq, (t.ifaceOf h0).map Iface.dsn)) = some ([.xmit ⟨[0x31#8, 0x22#8, 0xFF#8, 0x34#8, 0x12#8, 0x01#8, 0x00#8,
        0x42#8, 0x00#8, 0x48#8, 0x69#8, 0x3B#8, 0xAA#8], 11#8, .txCall 1⟩], some 0x00#8) := by decide +kernel
/-- T7: 117 bytes with a 9-byte header. -/
theorem test_tx_frame_too_long :
    outOf (exec (.txFrame h0 1#8 false true (.short 0x1234#16 0x0001#16) none (List.replicate 117 0#8)) (one 3)) =
      some [.response 1 [0x0A#8, 0#8]] := by decide +kernel
/-- T10 on `Fail`. -/
theorem test_xmit_reconfiguration_failure :
    look (perform (.work 0) { one 5 with curChannel := 15#8, setChans := [.fail], wq := [.xmit { xmit0 with origin := .txCall 7 }]
                                         tx := [{ call0 with stage := .waiting }] })
      (fun t => (t.out, t.curChannel, t.tx.map TxCtx.stage)) =
        some ([.setChannel 11#8], 15#8, [.completed .reconfigurationFailure]) := by decide +kernel

/-! ## Witnesses: the hypotheses of each statement, met together

Where a statement has several clauses, each clause's own hypotheses are met, at the boundary of its range. -/

/-- 127 bytes, the longest operand, and the shortest, and an Ack pattern with every reserved bit set. -/
theorem witness_decode_encode_round_trip : WellFormed (.rxFrame (List.replicate 127 0xFF#8)) = true ∧
    WellFormed (.crcCompute []) = true ∧ WellFormed (.frameAck ⟨false, true, true, 3#2, 0#2, 3#2, 0#2, 3#2⟩) = true := by
  decide +kernel

/-- Both sides of the equivalences are met: with a trailing zero byte, and by an Ack word with its reserved bits set. -/
theorem witness_decoding_exact : decodeCmd [0x04#8, 0#8, 0#8, 0#8, 0#8] = .ok .devFree ∧
    decodeFc 0xCCE2#16 = .ok (.frameAck ⟨false, false, true, 3#2, 0#2, 3#2, 0#2, 3#2⟩) := by
  exact ⟨rfl, rfl⟩

/-- An opcode that is not listed, and a listed one whose descriptor stops before its `reg` byte. -/
theorem witness_undecodable_command :
    ({ one 0 with cmdIn := [[0x07#8]] }).cmdIn = [0x07#8] :: [] ∧
      (0x07#8 : Byte) ∉ [0x01#8, 0x02#8, 0x03#8, 0x04#8, 0x05#8, 0x06#8, 0x10#8, 0x11#8, 0x12#8, 0x18#8, 0x19#8, 0x1A#8,
        0x20#8, 0x30#8, 0x38#8] ∧
      ({ one 0 with cmdIn := [[0x02#8, 0#8, 0#8]] }).cmdIn = (0x02#8 :: [0#8, 0#8]) :: [] ∧
      ∀ (i : Instr) (n : Nat), portOf i = .cmd → WellFormed i = true →
        ([0x02#8, 0#8, 0#8] : List Byte) ≠ encode i ++ List.replicate n 0#8 := by
  refine ⟨rfl, by decide, rfl, fun i n hp _ h => ?_⟩
  cases i <;> simp [encode, cmdHead, portOf] at h hp

/-- The header of vector E1, from which DE1 is read back. -/
theorem witness_header_round_trip : fcLayout.disjoint = true ∧
    encodeHdr fcLayout 1#8 false true (.short 0x1234#16 0x0042#16) (some (.short 0x1234#16 0x0001#16)) 0x2A#8 iface0.snap =
      .ok [0x31#8, 0x22#8, 0x2A#8, 0x34#8, 0x12#8, 0x42#8, 0x00#8, 0x01#8, 0x00#8] := ⟨by decide, rfl⟩

/-- Another layout, with its fields at the ends of the word. -/
theorem witness_header_round_trip_layout : (FcLayout.mk 4 15 5 13).disjoint = true ∧
    ∃ hdr, encodeHdr ⟨4, 15, 5, 13⟩ 3#8 false true (.long 0x1234#16 hw) none 0xFF#8 iface0.snap = .ok hdr :=
  ⟨by decide, _, rfl⟩

/-- Prefixes of the 9 bytes of E1 at 2, 3 and 8 bytes, and of an Ack at 2. -/
theorem witness_truncated_header : fcLayout.disjoint = true ∧ (∃ hdr : List Byte,
    encodeHdr fcLayout 1#8 false true (.short 0x1234#16 0x0042#16) (some (.short 0x1234#16 0x0001#16)) 0x2A#8 iface0.snap =
      .ok hdr ∧ 2 < hdr.length ∧ 2 < 3 ∧ 3 < hdr.length ∧ 3 ≤ 3 ∧ 8 < hdr.length) ∧ 2 < 3 :=
  ⟨by decide, ⟨_, rfl, by decide, by decide, by decide, by decide, by decide⟩, by decide⟩

/-- DE10: its payload byte may change, and the length may shrink to the header's. -/
theorem witness_decode_reads_header_only :
    (∀ k < 7, byteAt [0x01#8, 0x02#8, 0x09#8, 0x34#8, 0x12#8, 0x42#8, 0x00#8, 0xAA#8] k =
      byteAt [0x01#8, 0x02#8, 0x09#8, 0x34#8, 0x12#8, 0x42#8, 0x00#8] k) ∧
    (∃ md, decodeHdr fcLayout [0x01#8, 0x02#8, 0x09#8, 0x34#8, 0x12#8, 0x42#8, 0x00#8, 0xAA#8] 8 = .ok md ∧
      md.hdrLen ≤ 7 ∧ 7 ≤ md.hdrLen) ∧ ∃ t, exec (.decodeHdr [0x02#8, 0x00#8, 0x05#8]) (one 0) = .next t :=
  ⟨by decide, ⟨_, rfl, by decide, by decide⟩, _, rfl⟩

/-- Headers of 3 and of 23 bytes (DE5, DE4). -/
theorem witness_decoded_header :
    (∃ md, decodeHdr fcLayout [0x02#8, 0x00#8, 0x05#8] 3 = .ok md ∧ md.hdrLen = 3) ∧
    ∃ md, decodeHdr fcLayout ([0x01#8, 0x33#8, 0x08#8, 0x34#8, 0x12#8] ++ hw.rev8.bytes ++ [0xCD#8, 0xAB#8] ++
      hw2.rev8.bytes) 23 = .ok md ∧ md.hdrLen = 23 := ⟨⟨_, rfl, rfl⟩, _, rfl, rfl⟩

/-- One frame for each clause of the check order: DF1 (2 bytes), DF3, DF5, DF7, DF9, DF11 one byte short of its 7, and
DE10 with exactly 7. -/
theorem witness_header_check_order :
    let fc (buf : List Byte) := wireHalf buf 0
    let sec (buf : List Byte) := (fc buf).getLsbD 3 = true
    let badMode (buf : List Byte) := (fc buf).extractLsb' 8 2 = 1#2 ∨ (fc buf).extractLsb' 12 2 = 1#2
    let badAck (buf : List Byte) := (fc buf).extractLsb' 0 3 = 2#3 ∧
      ((fc buf).extractLsb' 8 2 ≠ 0#2 ∨ (fc buf).extractLsb' 12 2 ≠ 0#2)
    let badCombo (buf : List Byte) := (fc buf).getLsbD 5 = true ∧ (fc buf).extractLsb' 8 2 = 0#2 ∧
      (fc buf).extractLsb' 12 2 ≠ 0#2
    let need (buf : List Byte) := wireLen ((fc buf).extractLsb' 8 2) ((fc buf).extractLsb' 12 2) ((fc buf).getLsbD 5)
    let df3 := [0x09#8, 0x00#8, 0x01#8]
    let df5 := [0x01#8, 0x01#8, 0x01#8]
    let df7 := [0x02#8, 0x02#8, 0x05#8]
    let df9 := [0x21#8, 0x20#8, 0x01#8]
    let de10 := [0x01#8, 0x02#8, 0x09#8, 0x34#8, 0x12#8, 0x42#8, 0x00#8]
    2 < 3 ∧ sec df3 ∧ (¬ sec df5 ∧ badMode df5) ∧ (¬ sec df7 ∧ ¬ badMode df7 ∧ badAck df7) ∧
      (¬ sec df9 ∧ ¬ badMode df9 ∧ ¬ badAck df9 ∧ badCombo df9) ∧
      ¬ sec de10 ∧ ¬ badMode de10 ∧ ¬ badAck de10 ∧ ¬ badCombo de10 ∧ 6 < need de10 ∧ need de10 ≤ 7 := by
  decide

/-- DE5 and DE6 differ in reserved bits only but for the compression bit of DE6, so the word here keeps it. -/
theorem witness_reserved_bits :
    (∀ k, 2 ≤ k → byteAt [0x22#8, 0x00#8, 0x05#8] k = byteAt [0xE2#8, 0xCC#8, 0x05#8] k) ∧
    wireHalf [0x22#8, 0x00#8, 0x05#8] 0 &&& 0x333F#16 = wireHalf [0xE2#8, 0xCC#8, 0x05#8] 0 &&& 0x333F#16 ∧
    (∃ md, decodeHdr fcLayout [0x22#8, 0x00#8, 0x05#8] 3 = .ok md) ∧
    (∃ e, decodeHdr fcLayout [0x22#8, 0x00#8, 0x05#8] 2 = .error e) ∧
    ∃ hdr, encodeHdr fcLayout 1#8 false true (.short 0x1234#16 0x0042#16) none 0#8 iface0.snap = .ok hdr := by
  refine ⟨fun k hk => ?_, by decide, ⟨_, rfl⟩, ⟨_, rfl⟩, _, rfl⟩
  obtain ⟨j, rfl⟩ := Nat.exists_eq_add_of_le hk
  rw [Nat.add_comm]; rfl

/-- An accepted header, and one frame for each error code. -/
theorem witness_decode_hdr_answers : (one 0).running = true ∧ (inLife .draining (one 0)).running = true ∧
    header? [0x02#8, 0x00#8, 0x05#8] ≠ none ∧ headerError? [] = some .tooShort ∧
    headerError? [0x01#8, 0x01#8, 0x01#8] = some .badAddrMode ∧ headerError? [0x02#8, 0x02#8, 0x05#8] = some .badAckShape ∧
    headerError? [0x21#8, 0x20#8, 0x01#8] = some .badAddrCombo ∧ headerError? [0x01#8, 0x02#8, 0x09#8] = some .truncated ∧
    headerError? [0x09#8, 0x00#8, 0x01#8] = some .unsupportedFeature := by decide

/-- Each of the three types, with a valid handle and a destination. -/
theorem witness_encode_hdr_answers : (one 0).life = .live ∧ (one 0).ifaceOf h0 = some iface0 ∧
    (Address.short 0x1234#16 0x0042#16).mode ≠ .none ∧ ((0#8 : Byte) = 0#8 ∧ (1#8 : Byte) = 1#8 ∧ (3#8 : Byte) = 3#8) := by
  decide

/-- Both sides of the compression condition, and a destination. -/
theorem witness_header_wire_form : (Address.long 0x1234#16 hw).mode ≠ .none ∧
    (∃ p, (Address.long 0x1234#16 hw).pan? = some p ∧ (Address.short 0x1234#16 1#16).pan? = some p ∧ p ≠ 0xFFFF#16) ∧
    ¬ ∃ p, (Address.long 0xFFFF#16 hw).pan? = some p ∧ (Address.short 0xFFFF#16 1#16).pan? = some p ∧ p ≠ 0xFFFF#16 := by
  refine ⟨by decide, ⟨0x1234#16, rfl, rfl, by decide⟩, fun ⟨p, hp, _, hne⟩ => ?_⟩
  cases hp
  exact hne rfl

/-- A missing destination, security, type 2 and the types 4 and 255. -/
theorem witness_encode_hdr_refusals : (one 0).life = .live ∧ (one 0).handleOk h0 = true ∧ Address.none.mode = .none ∧
    (Address.short 0x1234#16 0x0042#16).mode ≠ .none ∧ (2#8 : Byte) = 2#8 ∧ 4 ≤ (4#8 : Byte).toNat ∧
    4 ≤ (255#8 : Byte).toNat := by decide

/-- The device runs in `Live` and in `Draining`. -/
theorem witness_build_ack : (one 0).running = true ∧ (inLife .draining (one 0)).running = true := by decide

/-- 125 and 126 bytes to append to; a valid frame of 2 bytes, a frame of 1 byte, a frame with a wrong checksum. -/
theorem witness_crc_commands : (one 0).running = true ∧ (List.replicate 125 0#8).length ≤ 125 ∧
    125 < (List.replicate 126 0#8).length ∧ (2 ≤ [0#8, 0#8].length ∧ crc16 [0#8, 0#8] = 0#16) ∧ [1#8].length < 2 ∧
    crc16 [1#8, 0#8] ≠ 0#16 := by decide +kernel

/-- 125 bytes, and at least two zero bytes; two sequences of one length. -/
theorem witness_checksum_claims : (one 0).running = true ∧ (List.replicate 125 0#8).length ≤ 125 ∧ 2 ≤ 2 ∧
    [0x01#8, 0xFF#8].length = [0x80#8, 0x00#8].length := by decide +kernel

theorem witness_classify : (one 0).life = .live ∧ (one 0).ifaceOf h0 = some iface0 := by decide

/-- A type above 1, another life state, a full bank, a free slot 0 and one behind a bound slot. -/
theorem witness_if_add : 1 < (2#8 : Byte).toNat ∧ (1#8 : Byte).toNat ≤ 1 ∧ (inLife .released (one 0)).life ≠ .live ∧
    ((one 0).life = .live ∧ ∀ sl ∈ ({ one 0 with slots := [⟨0#8, .bound iface0⟩] }).slots, sl.valid = true) ∧
    ((empty 0).slots[0]? = some ⟨0#8, .free⟩) ∧
    ((one 0).slots[1]? = some ⟨0#8, .free⟩ ∧ ∀ m < 1, ((one 0).slots[m]?).map Slot.valid = some true) ∧
    (one 0).seqs = 0xFE#8 :: 0x80#8 :: [] := by decide

/-- A removal whose grace period has ended is waited for under ticket 5, and one that a frame still holds. -/
theorem witness_if_remove_wait : let s : State := { one 0 with
      host := .removing 5 0, slots := [⟨1#8, .unlinked iface0⟩, ⟨0#8, .free⟩, ⟨0#8, .free⟩, ⟨0#8, .free⟩] }
    s.host = .removing 5 0 ∧ s.holds 0 = false ∧ s.slots[0]? = some ⟨1#8, .unlinked iface0⟩ ∧
      ({ s with rx := some (handling .classify mdHost) }).holds 0 = true := by decide

/-- Outside `Live`; a stale handle; a valid one with and without a burst, and with a traversal that holds its slot. -/
theorem witness_if_remove : (inLife .draining (one 0)).life ≠ .live ∧ (one 0).life = .live ∧ (one 0).ifaceOf h1 = none ∧
    (one 0).ifaceOf h0 = some iface0 ∧ (one 0).burst = 0 ∧ (one 1).burst ≠ 0 ∧ (one 1).holds h0.slot.toNat = false ∧
    (atStage .classify (one 1)).holds h0.slot.toNat = true := by decide

/-- A removal that a frame in its classification makes wait. -/
def grace : State :=
  { atStage .classify (one 0) with
    host := .removing 1 0, sched := [⟨.rx 0, 0⟩], slots := [⟨1#8, .unlinked iface0⟩, ⟨0#8, .free⟩, ⟨0#8, .free⟩, ⟨0#8, .free⟩] }

theorem witness_grace_period : grace.host = .removing 1 0 ∧ ({ grace with host := .unlinking 1 0 }).host = .unlinking 1 0 ∧
    grace.holds 0 = true ∧ grace.slots[0]? = some ⟨1#8, .unlinked iface0⟩ ∧ grace.turn.1 ≠ some .reset ∧
    ∃ t, step grace = .next t :=
  ⟨rfl, rfl, rfl, rfl, by decide, _, rfl⟩

/-- A generation that does not match, and a slot number beyond the bank; the device runs in `Draining` too. -/
theorem witness_stale_handle : (one 0).life = .live ∧ (one 0).running = true ∧ (inLife .draining (one 0)).running = true ∧ (∀ i, (one 0).slots[h1.slot.toNat]? ≠ some ⟨h1.gen, .bound i⟩) ∧
    (∀ i, (one 0).slots[(⟨200#8, 0#8⟩ : Handle).slot.toNat]? ≠ some ⟨0#8, .bound i⟩) ∧
    (Address.short 0x1234#16 0x0001#16).mode ≠ .none := by
  refine ⟨rfl, rfl, rfl, fun i h => ?_, fun i h => ?_, by decide⟩ <;> cases h

theorem witness_dev_free_fatal : (one 0).life = .live ∧ ∃ sl ∈ (one 0).slots, sl.valid = true := by decide

/-- A device with no interface: with no burst, with a queued item, with a frame in progress, with nothing left. -/
theorem witness_dev_free_releases : (inLife .fatal (one 0)).life ≠ .live ∧ (empty 0).life = .live ∧
    (∀ sl ∈ (empty 0).slots, sl.valid = false) ∧ (empty 0).burst = 0 ∧ ({ empty 3 with wq := [.xmit xmit0] }).wq ≠ [] ∧
    ({ empty 3 with work := .finishing }).work ≠ .idle ∧
    ((empty 1).burst ≠ 0 ∧ (empty 1).wq = [] ∧ (empty 1).work = .idle ∧ (atStage .classify (empty 1)).trav ≠ []) ∧
    3 ≤ (empty 3).burst ∧ (empty 3).wq = [] ∧ (empty 3).work = .idle ∧ (empty 3).trav = [] := by decide

/-- Each wait of a teardown, over and not over. -/
theorem witness_drain : ({ empty 0 with host := .draining 5 }).host = .draining 5 ∧ ((empty 0).wq = [] ∧ (empty 0).work = .idle) ∧
    ({ empty 0 with wq := [.xmit xmit0] }).wq ≠ [] ∧ ({ empty 0 with work := .finishing }).work ≠ .idle ∧
    ({ empty 0 with host := .settling 5 }).host = .settling 5 ∧ (empty 0).trav = [] ∧ (atStage .classify (empty 0)).trav ≠ [] ∧
    ({ empty 0 with host := .releasing 5 }).host = .releasing 5 := by decide

/-- DEV_UNREGISTER with a bound slot left and with none, and its wait for a slot that is held and that is not. -/
theorem witness_unregister_steps : ({ two 0 with host := .unregistering 5 }).host = .unregistering 5 ∧
    (∀ sl ∈ (empty 0).slots, sl.valid = false) ∧ (∃ sl ∈ (two 0).slots, sl.valid = true) ∧
    (two 0).slots[1]? = some ⟨0#8, .bound iface1⟩ ∧ (inLife .draining (two 0)).life ≠ .fatal ∧
    ({ grace with host := .unlinking 5 0 }).host = .unlinking 5 0 ∧ grace.holds 0 = true ∧
    ({ grace with rx := none }).holds 0 = false ∧ grace.slots[0]? = some ⟨1#8, .unlinked iface0⟩ := by decide

theorem witness_dev_unregister : (inLife .released (two 8)).life ≠ .live ∧ (two 8).life = .live ∧ (two 0).burst = 0 ∧
    (two 8).wq = [] ∧ (two 8).work = .idle ∧ (two 8).trav = [] ∧ 2 * (two 8).slots.countP Slot.valid + 4 ≤ (two 8).burst := by
  decide

theorem witness_gone_commands : (inLife .draining (one 0)).life ≠ .live ∧ (inLife .released (one 0)).life = .released ∧
    (inLife .fatal (one 0)).life = .fatal ∧ (0#8 : Byte).toNat ≤ 1 ∧ (Address.short 0x1234#16 0x0001#16).mode ≠ .none ∧
    ({ inLife .fatal (one 0) with phyIn := [frameRx1] }).phyIn = frameRx1 :: [] := by decide

/-- A fatal device and a released one that take a step. -/
theorem witness_fatal_frozen : ∀ l ∈ [Life.fatal, Life.released],
    let s : State := { inLife l (one 0) with sched := [⟨.cmd, 0⟩], cmdIn := [[0x04#8, 0#8, 0#8, 0#8]] }
    s.life = l ∧ s.turn.1 ≠ some .reset ∧ ∃ t, step s = .next t := by
  intro l hl
  rcases List.mem_cons.1 hl with rfl | hl
  · exact ⟨rfl, by decide, _, rfl⟩
  · rcases List.mem_singleton.1 hl with rfl
    exact ⟨rfl, by decide, _, rfl⟩

/-- The radio filters addresses and the queue is full, or has room for the update, or already holds it. -/
def filtering (wq : List WorkItem) (depth : Nat) : State :=
  { one 0 with cfg := { cfgHw with addrFilter := true, wqDepth := depth }, wq := wq }

/-- An unlisted and a read-only register, `Draining`, a stale handle, and each way a write can go. -/
theorem witness_cfg_write : (0x1F#8 : Byte) ∉ [0x10#8, 0x11#8, 0x12#8, 0x13#8] ∧
    (0x1F#8 : Byte) ∉ [0x00#8, 0x01#8, 0x02#8, 0x03#8, 0x04#8, 0x05#8, 0x06#8, 0x08#8, 0x09#8, 0x14#8, 0x15#8, 0x16#8,
      0x17#8] ∧ (0x17#8 : Byte) ∈ [0x14#8, 0x15#8, 0x16#8, 0x17#8] ∧ (inLife .draining (one 0)).life ≠ .live ∧
    (one 0).ifaceOf h1 = none ∧ (filtering [.xmit xmit0] 1).life = .live ∧
    (filtering [.xmit xmit0] 1).ifaceOf h0 = some iface0 ∧ (filtering [.xmit xmit0] 1).cfg.addrFilter = true ∧
    WorkItem.filterUpdate h0 ∉ (filtering [.xmit xmit0] 1).wq ∧
    (filtering [.xmit xmit0] 1).cfg.wqDepth ≤ (filtering [.xmit xmit0] 1).wq.length ∧
    ¬ (filtering [.xmit xmit0] 2).cfg.wqDepth ≤ (filtering [.xmit xmit0] 2).wq.length ∧
    ¬ WorkItem.filterUpdate h0 ∉ (filtering [.filterUpdate h0] 1).wq := by decide

/-- An unlisted register, a filter pushed, and an interface read in `Draining`. -/
theorem witness_cfg_read : (0x07#8 : Byte) ∉ [0x00#8, 0x01#8, 0x02#8, 0x03#8, 0x04#8, 0x05#8, 0x06#8, 0x08#8, 0x09#8,
      0x10#8, 0x11#8, 0x12#8, 0x13#8, 0x14#8, 0x15#8, 0x16#8, 0x17#8] ∧
    ({ one 0 with filter := some ⟨1#16, 2#16, hw⟩ }).filter = some ⟨1#16, 2#16, hw⟩ ∧ (one 0).filter = none ∧
    (inLife .draining (one 0)).running = true ∧ (inLife .draining (one 0)).ifaceOf h0 = some iface0 := by decide

/-- RX2 with a wrong checksum, and a frame of one byte. -/
theorem witness_bad_checksum : (one 2).running = true ∧ (one 2).cfg.omitsChecksum = false ∧
    crc16 [0x31#8, 0x22#8, 0x2A#8, 0x34#8, 0x12#8, 0x42#8, 0x00#8, 0x01#8, 0x00#8, 0x49#8, 0x69#8, 0xD5#8, 0x38#8] ≠ 0#16 ∧
    [0x01#8].length < 2 ∧ 2 ≤ (one 2).burst ∧ [0x01#8].length ≤ 127 ∧ ({ one 2 with phyIn := [[0x01#8]] }).phyIn = [0x01#8] :: [] := by decide +kernel

/-- RX7 (a truncated header) and RX4 (security), and the radio that omits the checksum. -/
theorem witness_malformed : (one 3).running = true ∧ (one 3).passesChecksum [0x01#8, 0x00#8, 0xD8#8, 0x19#8] ∧
    decodeHdr fcLayout [0x01#8, 0x00#8, 0xD8#8, 0x19#8] ((one 3).strippedLen [0x01#8, 0x00#8, 0xD8#8, 0x19#8]) =
      .error (.tooShort, 0) ∧
    (one 3).passesChecksum [0x09#8, 0x00#8, 0x01#8, 0x00#8, 0xBB#8, 0xE0#8] ∧
    decodeHdr fcLayout [0x09#8, 0x00#8, 0x01#8, 0x00#8, 0xBB#8, 0xE0#8]
      ((one 3).strippedLen [0x09#8, 0x00#8, 0x01#8, 0x00#8, 0xBB#8, 0xE0#8]) = .error (.unsupportedFeature, 3) ∧
    ({ one 3 with cfg := { cfgHw with omitsChecksum := true } }).passesChecksum [0x01#8] ∧ 3 ≤ (one 3).burst ∧
    [0x01#8, 0x00#8, 0xD8#8, 0x19#8].length ≤ 127 ∧
    ({ one 3 with phyIn := [[0x01#8, 0x00#8, 0xD8#8, 0x19#8]] }).phyIn = [0x01#8, 0x00#8, 0xD8#8, 0x19#8] :: [] :=
  ⟨rfl, .inr (by decide +kernel), rfl, .inr (by decide +kernel), rfl, .inl rfl, by decide, by decide, rfl⟩

/-- RX13, and a bank whose only interface is a monitor that is not matched. -/
theorem witness_no_interface : (empty 8).running = true ∧ (empty 8).passesChecksum frameRx1 ∧
    decodeHdr fcLayout frameRx1 ((empty 8).strippedLen frameRx1) = .ok mdDe1 ∧
    (∀ (n : Nat) (g : Byte) (i : Iface), (empty 8).slots[n]? = some ⟨g, .bound i⟩ →
      (empty 8).cfg.matchMonitor = false ∧ i.type = .monitor) ∧ (empty 8).slots.length + 4 ≤ (empty 8).burst ∧
    frameRx1.length ≤ 127 ∧ ({ empty 8 with phyIn := [frameRx1] }).phyIn = frameRx1 :: [] := by
  refine ⟨rfl, .inr (by decide +kernel), rfl, fun n g i h => ?_, by decide, by decide, rfl⟩
  rcases n with _ | _ | _ | _ | n <;> simp [empty, Slot.reset, List.replicate] at h

theorem witness_no_interface_monitor : ∃ s : State, s.cfg.matchMonitor = false ∧
    (s.slots[0]? = some ⟨0#8, .bound iface1⟩) ∧ ∀ (n : Nat) (g : Byte) (i : Iface), s.slots[n]? = some ⟨g, .bound i⟩ →
      s.cfg.matchMonitor = false ∧ i.type = .monitor := by
  refine ⟨{ one 8 with cfg := { cfgHw with matchMonitor := false }, slots := [⟨0#8, .bound iface1⟩] }, rfl, rfl,
    fun n g i h => ⟨rfl, ?_⟩⟩
  rcases n with _ | n
  · cases h; rfl
  · cases h

/-- RX1 with two interfaces: one clone, which can be made, then the original. -/
theorem witness_fan_out : (two 41).running = true ∧ (two 41).passesChecksum frameRx1 ∧
    decodeHdr fcLayout frameRx1 ((two 41).strippedLen frameRx1) = .ok mdDe1 ∧ mdDe1.type = 1#3 ∧
    (two 41).cfg.hwAck = true ∧ (two 41).matching ≠ [] ∧
    (two 41).clones = List.replicate ((two 41).matching.length - 1) true ++ [] ∧
    5 + 9 * (two 41).slots.length ≤ (two 41).burst ∧ (two 41).matching[1]? = some 1 ∧
    (two 41).slots[1]? = some ⟨0#8, .bound iface1⟩ ∧ frameRx1.length ≤ 127 ∧
    ({ two 41 with phyIn := [frameRx1] }).phyIn = frameRx1 :: [] :=
  ⟨rfl, .inr (by decide +kernel), rfl, rfl, rfl, by decide, rfl, by decide, rfl, rfl, by decide, rfl⟩

/-- Frame RX1 in a receive state. -/
def inRx (st : RxState) : RxCtx := ⟨.command 5, frameRx1, 13, 0, st, []⟩

/-- Each receive state, for a frame with a right and one with a wrong checksum, an accepted and a rejected header, a slot that
matches and one that does not, and both sources. -/
theorem witness_receive_steps : (∀ st, ({ one 0 with rx := some (inRx st) }).rx = some (inRx st) ∧ (inRx st).st = st) ∧
    ({ one 0 with cfg := { cfgHw with omitsChecksum := true } }).cfg.omitsChecksum = true ∧ (one 0).cfg.omitsChecksum = false ∧
    (2 ≤ (frameRx1.take 13).length ∧ crc16 (frameRx1.take 13) = 0#16) ∧
    ¬ (2 ≤ (frameRx1.take 12).length ∧ crc16 (frameRx1.take 12) = 0#16) ∧
    (∃ md, decodeHdr fcLayout frameRx1 13 = .ok md) ∧ (∃ e cur, decodeHdr fcLayout frameRx1 8 = .error (e, cur)) ∧
    ((one 0).slots[0]? = some ⟨0#8, .bound iface0⟩ ∧ iface0.type = .ordinary) ∧
    (¬ ∃ g i, (one 0).slots[1]? = some ⟨g, .bound i⟩ ∧ ((one 0).cfg.matchMonitor = true ∨ i.type = .ordinary)) ∧
    (inRx .done).source = .command 5 ∧ ({ inRx .done with source := .radio }).source = .radio := by
  refine ⟨fun st => ⟨rfl, rfl⟩, rfl, rfl, by decide +kernel, by decide +kernel, ⟨_, rfl⟩, ⟨_, _, rfl⟩, ⟨rfl, rfl⟩, ?_, rfl, rfl⟩
  rintro ⟨g, i, h, _⟩
  cases h

/-- A fan-out that has taken one slot, and one that has taken two; a clone that is made and one that fails. -/
theorem witness_clones :
    (∃ c : RxCtx, ({ one 0 with rx := some c }).rx = some c ∧ c.st = .fanout mdDe1 [] ([] ++ [0])) ∧
    (∃ c : RxCtx, ({ one 0 with rx := some c }).rx = some c ∧ c.st = .fanout mdDe1 [] ([0] ++ [1])) ∧
    (atStage .clone (one 0)).rx = some (handling .clone mdHost) ∧
    (handling .clone mdHost).st = .handling [⟨0, true, ⟨frameRx1, 11, mdHost⟩, .clone⟩] ∧
    (atStage .clone (one 0)).clones = true :: [] ∧ ({ one 0 with clones := [false] }).clones = false :: [] :=
  ⟨⟨{ handling .clone mdHost with st := .fanout mdDe1 [] [0] }, rfl, rfl⟩,
    ⟨{ handling .clone mdHost with st := .fanout mdDe1 [] [0, 1] }, rfl, rfl⟩, rfl, rfl, rfl, rfl⟩

/-- The classification of a slot that is bound, and of one already unlinked. -/
theorem witness_scope_per_copy : (atStage .classify (one 0)).rx = some (handling .classify mdHost) ∧
    (handling .classify mdHost).st = .handling [⟨0, true, ⟨frameRx1, 11, mdHost⟩, .classify⟩] ∧
    (one 0).slots[0]? = some ⟨0#8, .bound iface0⟩ ∧ grace.slots[0]? = some ⟨1#8, .unlinked iface0⟩ := by decide

/-- The check due and not due; synthesis with no channel, with a full queue and with room. -/
theorem witness_ack_check : (atStage .ackCheck (one 0)).rx = some (handling .ackCheck mdHost) ∧
    (mdHost.scope = some .host ∧ mdHost.ackreq = true ∧ ({ one 0 with cfg := Config.reference }).cfg.hwAck = false) ∧
    ¬ ((one 0).cfg.hwAck = false) ∧ (atStage .synthRead (one 0)).rx = some (handling .synthRead mdHost) ∧
    (atStage (.synthQueue 0xFF#8) (one 0)).rx = some (handling (.synthQueue 0xFF#8) mdHost) ∧
    ((0xFF#8 : Byte) = (one 0).cfg.chanNone) ∧
    (filtering [.xmit xmit0] 1).cfg.wqDepth ≤ (filtering [.xmit xmit0] 1).wq.length ∧
    ((11#8 : Byte) ≠ (one 0).cfg.chanNone ∧ (one 0).wq.length < (one 0).cfg.wqDepth) := by decide

/-- No copy at its dispatch; a copy at its dispatch, with a burst of 0 and of 1. -/
theorem witness_dispatch_in_one_step : (one 0).atDispatch = none ∧
    (atStage .dispatch (one 0)).rx = some (handling .dispatch mdHost) ∧
    (handling .dispatch mdHost).st = .handling [⟨0, true, ⟨frameRx1, 11, mdHost⟩, .dispatch⟩] ∧ (one 0).burst ≤ 1 ∧
    (one 1).burst ≤ 1 := by decide

/-- A copy at its dispatch with a burst of 2, the parser answering an address and an error, the handler a result. -/
theorem witness_dispatch_with_answer : (atStage .dispatch (one 2)).rx = some (handling .dispatch mdHost) ∧
    (one 0).burst = 0 ∧ (one 2).burst = 2 ∧
    ({ one 2 with parses := [some ⟨.short 1#16 2#16, 0⟩] }).parses = some ⟨.short 1#16 2#16, 0⟩ :: [] ∧
    (one 2).parses = none :: [] ∧ (one 2).handled = 7 :: [] ∧
    (∀ st ∈ [Stage.parsing, .commanding],
      (handling st mdHost).st = .handling [⟨0, true, ⟨frameRx1, 11, mdHost⟩, st⟩]) := by decide

/-- The header of T1 and 116 bytes of payload. -/
def longest : List Byte :=
  headerBytes fcLayout ((1#8 : Byte).setWidth 3) true (.short 0x1234#16 0x0001#16) (sourceFrom none iface0) iface0.dsn ++
    List.replicate 116 0#8

/-- T1 as a call, at the length limit: 116 bytes of payload make 127 (T7); room in the queue and a full queue. -/
theorem witness_tx_frame : (one 3).life = .live ∧ (one 3).ifaceOf h0 = some iface0 ∧ iface0.channel ≠ (one 3).cfg.chanNone ∧
    (Address.short 0x1234#16 0x0001#16).mode ≠ .none ∧ (∀ c ∈ (one 3).tx, c.k ≠ (one 3).ticket) ∧
    (longest ++ checksumBytes (one 3).cfg longest).length = 127 ∧
    (one 0).burst = 0 ∧ 3 ≤ (one 3).burst ∧ (one 3).wq.length < (one 3).cfg.wqDepth ∧
    (filtering [.xmit xmit0] 1).cfg.wqDepth ≤ (filtering [.xmit xmit0] 1).wq.length := by decide +kernel

/-- Each refusal of TX_FRAME before a sequence number is taken; 117 bytes of payload are one too many. -/
theorem witness_tx_refusals : Address.none.mode = .none ∧ (Address.short 0x1234#16 0x0001#16).mode ≠ .none ∧
    4 ≤ (4#8 : Byte).toNat ∧ (inLife .draining (one 0)).life ≠ .live ∧ (one 0).life = .live ∧ (one 0).ifaceOf h1 = none ∧
    (two 0).ifaceOf ⟨1#8, 0#8⟩ = some iface1 ∧ iface1.channel = (two 0).cfg.chanNone ∧ (one 0).ifaceOf h0 = some iface0 ∧
    iface0.channel ≠ (one 0).cfg.chanNone ∧ 127 < (headerBytes fcLayout ((1#8 : Byte).setWidth 3) true (.short 0x1234#16 0x0001#16)
      (sourceFrom none iface0) 0#8).length + (List.replicate 117 0#8 : List Byte).length +
        (if (one 0).cfg.omitsChecksum = true then 0 else 2) := by decide +kernel

/-- A call after its snapshot with a handle still good, and with one gone stale. -/
theorem witness_sequence : ({ one 0 with tx := [call0] }).txCall 7 = some call0 ∧ call0.stage = .snapped ∧
    ({ one 0 with tx := [call0] }).ifaceOf call0.h = some iface0 ∧ ({ empty 0 with tx := [call0] }).ifaceOf call0.h = none := by
  decide

/-- A call about to build, and one that has built its frame: with room in the queue, with a full queue, and after the
device began to drain. -/
theorem witness_call_in_flight :
    ({ one 0 with tx := [{ call0 with stage := .numbered 5#8 }] }).txCall 7 = some { call0 with stage := .numbered 5#8 } ∧
    (∀ s ∈ [one 0, filtering [.xmit xmit0] 1, inLife .draining (one 0)],
      ({ s with tx := [{ call0 with stage := .built }] }).txCall 7 = some { call0 with stage := .built }) ∧
    (one 0).life = .live ∧ (one 0).wq.length < (one 0).cfg.wqDepth ∧ (filtering [.xmit xmit0] 1).life = .live ∧
    (filtering [.xmit xmit0] 1).cfg.wqDepth ≤ (filtering [.xmit xmit0] 1).wq.length ∧
    (inLife .draining (one 0)).life ≠ .live := by decide

/-- A call that waits, and one for each result. -/
theorem witness_completion :
    ({ one 0 with tx := [{ call0 with stage := .waiting }] }).txCall 7 = some { call0 with stage := .waiting } ∧
    ∀ r ∈ [XmitResult.ok, .deviceBusy, .reconfigurationFailure],
      ({ one 0 with tx := [{ call0 with stage := .completed r }] }).txCall 7 = some { call0 with stage := .completed r } := by
  decide

/-- The item second in the queue; the device's channel, another channel, and a radio that refuses it. -/
theorem witness_xmit : let s : State := { one 5 with wq := [.filterUpdate h0, .xmit xmit0] }
    s.running = true ∧ s.work = .idle ∧ s.wq[1]? = some (.xmit xmit0) ∧ s.curChannel = xmit0.channel ∧
      s.transmits = .ok :: [] ∧ s.burst = 5 ∧ ({ s with curChannel := 15#8 }).curChannel ≠ xmit0.channel ∧
      s.setChans = .ok :: [] ∧ ({ s with burst := 8 }).burst = 8 ∧ ({ s with setChans := [.fail] }).setChans = .fail :: [] := by
  decide

/-- Each stage of an item, on the device's channel and on another, with both answers of the radio, and for both origins. -/
theorem witness_work_steps : let s : State := { one 0 with wq := [.xmit xmit0] }
    (s.work = .idle ∧ s.running = true ∧ s.wq[0]? = some (.xmit xmit0)) ∧
      (∀ w ∈ [WorkStage.start (.xmit xmit0), .tune xmit0, .tuning xmit0, .tuned xmit0, .send xmit0, .sending xmit0,
        .report xmit0 .deviceBusy, .report { xmit0 with origin := .txCall 7 } .ok, .finishing, .start (.filterUpdate h0),
        .filterSend ⟨1#16, 2#16, hw⟩, .filterSet ⟨1#16, 2#16, hw⟩], ({ s with work := w }).work = w) ∧
      s.curChannel = xmit0.channel ∧ ({ s with curChannel := 15#8 }).curChannel ≠ xmit0.channel ∧
      s.setChans = .ok :: [] ∧ s.transmits = .ok :: [] ∧ s.ifaceOf h0 = some iface0 ∧ s.ifaceOf h1 = none := by decide

theorem witness_filter_update : let s : State := filtering [.filterUpdate h0] 1
    s.running = true ∧ s.work = .idle ∧ s.wq[0]? = some (.filterUpdate h0) ∧ s.ifaceOf h0 = some iface0 ∧
      ({ s with burst := 4 }).burst = 4 ∧ ({ s with slots := (empty 0).slots }).ifaceOf h0 = none ∧
      ({ s with burst := 2 }).burst = 2 := by decide

/-- Each form of the frame statement answers a next state. -/
theorem witness_instruction_frames :
    (∃ t, exec (.buildAck 0#8) (one 0) = .next t) ∧ (∃ t, exec (.ifAdd 0#8 hw) (one 0) = .next t) ∧
    (∃ t, exec (.cfgWrite h0 0x10#8 4#64) (one 0) = .next t) ∧ (∃ t, exec (.ifRemove h0) (one 0) = .next t) ∧
    (∃ t, exec .devUnregister (one 0) = .next t) ∧ (∃ t, exec .devFree (one 0) = .next t) ∧
    ((∀ c ∈ (one 0).tx, c.k ≠ (one 0).ticket) ∧
      ∃ t, exec (.txFrame h0 1#8 false true (.short 0x1234#16 0x0001#16) none []) (one 0) = .next t) ∧
    ((∃ t, exec (.rxFrame frameRx1) (one 0) = .next t) ∧
      ∃ t, exec (.frameAck (ctl false false 0#2 0#2)) (atStage .dispatch (one 0)) = .next t) ∧
    ((one 0).freeSlot = some 1 ∧ ({ one 0 with slots := [⟨0#8, .bound iface0⟩] }).freeSlot = none ∧ 1 < (2#8 : Byte).toNat ∧
      (inLife .draining (one 0)).life ≠ .live ∧ 1 ∉ (one 0).boundSlots) :=
  ⟨⟨_, rfl⟩, ⟨_, rfl⟩, ⟨_, rfl⟩, ⟨_, rfl⟩, ⟨_, rfl⟩, ⟨_, rfl⟩, ⟨by decide, _, rfl⟩, ⟨⟨_, rfl⟩, _, rfl⟩, by decide⟩

/-- DEV_FREE at the head of CMD, scheduled; a Data copy at its dispatch, scheduled. -/
theorem witness_step_runs_decoded :
    (∃ s u : State, s.sched = ⟨.cmd, 9⟩ :: [] ∧ (⟨.cmd, 9⟩ : Pick).move ∈ s.moves ∧ s.turn = (some .cmd, u) ∧
      u.cmdIn = [0x04#8, 0#8, 0#8, 0#8] :: [] ∧ decode .cmd [0x04#8, 0#8, 0#8, 0#8] = .ok .devFree) ∧
    ∃ (s u : State) (c : RxCtx) (h : HandleCtx) (i : Instr), s.turn = (some (.rx 0), u) ∧
      (u.focusRx 0).atDispatch = some (c, h, []) ∧ decodeFc h.copy.md.fc = .ok i :=
  ⟨⟨{ one 0 with cmdIn := [[0x04#8, 0#8, 0#8, 0#8]], sched := [⟨.cmd, 9⟩] }, _, rfl, by decide, rfl, rfl, rfl⟩,
    ⟨{ atStage .dispatch (one 0) with sched := [⟨.rx 0, 0⟩] }, _, _, _, _, rfl, rfl, rfl⟩⟩

/-- A turn of each agent in progress, the RX agent's off a dispatch, and a turn with no move. -/
theorem witness_step_runs_agents :
    (∃ s u : State, s.turn = (some (.rx 0), u) ∧
      ∀ c h rest i, (u.focusRx 0).atDispatch = some (c, h, rest) → decodeFc h.copy.md.fc ≠ .ok i) ∧
    (∃ s u : State, s.turn = (some (.host 0), u)) ∧ (∃ s u : State, s.turn = (some (.tx 7), u)) ∧
    (∃ s u : State, s.turn = (some (.work 0), u)) ∧ ∃ s u : State, s.turn = (none, u) :=
  ⟨⟨{ atStage .classify (one 0) with sched := [⟨.rx 0, 0⟩] }, _, rfl, fun c h rest i hd => by cases hd⟩,
    ⟨{ empty 0 with host := .releasing 5, sched := [⟨.host 0, 0⟩] }, _, rfl⟩,
    ⟨{ one 0 with tx := [call0], sched := [⟨.tx 7, 0⟩] }, _, rfl⟩,
    ⟨{ one 0 with wq := [.xmit xmit0], sched := [⟨.work 0, 0⟩] }, _, rfl⟩, ⟨{ one 0 with sched := [⟨.phy, 0⟩] }, _, rfl⟩⟩

theorem witness_dispatch_is_state_machine : (atStage .dispatch (one 0)).rx = some (handling .dispatch mdHost) ∧
    (handling .dispatch mdHost).st = .handling [⟨0, true, ⟨frameRx1, 11, mdHost⟩, .dispatch⟩] ∧ mdHost.WellShaped 11 := by decide

/-- A step that changes the channel, one that changes a counter, one that changes the life state. -/
theorem witness_agents_own_state :
    (∃ t, step { one 1 with work := .tuned { xmit0 with channel := 15#8 }, sched := [⟨.work 0, 0⟩] } = .next t ∧
      t.curChannel = 15#8) ∧
    (∃ t, step { one 1 with phyIn := [[0x01#8]], sched := [⟨.phy, 2⟩] } = .next t ∧ t.cntBadcsum = 1) ∧
    (∃ t, step { one 1 with cmdIn := [[0x03#8, 0#8, 0#8, 0#8]], sched := [⟨.cmd, 0⟩] } = .next t ∧ t.life = .draining) ∧
    ∃ t, step { one 1 with tx := [call0], sched := [⟨.tx 7, 0⟩] } = .next t ∧
      t.slots[0]? = some ⟨0#8, .bound { iface0 with dsn := 0#8 }⟩ :=
  ⟨⟨_, rfl, rfl⟩, ⟨_, rfl, rfl⟩, ⟨_, rfl, rfl⟩, _, rfl, rfl⟩

/-- A reset is made in `Fatal`, with a frame and a call in progress, and both life and frame are gone, the call unanswered. -/
def fatalBusy : State :=
  { atStage .classify (inLife .fatal (one 0)) with
    fatalCause := .nonEmptyFree, tx := [call0], resetIn := true, sched := [⟨.reset, 0⟩] }

theorem test_reset : look (step fatalBusy) (fun t => (t.life, t.fatalCause, t.curChannel, t.slots)) =
      some (.live, .none, 0xFF#8, List.replicate 4 ⟨0#8, .free⟩) ∧
    look (step fatalBusy) (fun t => (t.rx, t.tx, t.out, t.cfg.hwAck, t.resetIn)) = some (none, [], [], true, false) := ⟨rfl, rfl⟩

theorem witness_reset : fatalBusy.resetIn = true ∧ fatalBusy.sched = ⟨.reset, 0⟩ :: [] := by decide

theorem witness_idle : State.reset.resetIn = false ∧ State.reset.cmdIn = [] ∧ State.reset.phyIn = [] ∧ State.reset.rx = none ∧ State.reset.tx = [] ∧
    State.reset.host = .idle ∧ State.reset.wq = [] ∧ State.reset.work = .idle := by decide

/-- A state in the middle of work: a removal waiting for a frame, an item queued for a call, an update queued. -/
def busy : State :=
  { grace with
    tx := [{ call0 with stage := .waiting }], ticket := 9
    wq := [.xmit { xmit0 with origin := .txCall 7 }, .filterUpdate ⟨2#8, 0#8⟩] }

/-- It meets every invariant, and it takes a step. -/
theorem witness_invariants : busy.SlotsHeld ∧ busy.Lifecycle ∧ busy.QueueBounded ∧ busy.UpdatesOnce ∧ busy.SlotsOnce ∧
    busy.HeadersAccepted ∧ busy.WithinWidths ∧ busy.FrameBounded ∧ busy.CallsTracked ∧ busy.BankSized ∧
    ∃ t, step busy = .next t := by
  refine ⟨by decide, ⟨by decide, by decide, rfl, fun h => absurd h (by decide), by decide⟩, by decide, by decide, by decide, ?_,
    by decide, by decide, ⟨by decide, by decide, by decide⟩, by decide, _, rfl⟩
  intro c hc
  cases hc
  intro h hh
  cases hh with
  | head => decide
  | tail _ hh => cases hh

theorem witness_config : Config.reference.wf = true ∧
    (Config.mk 256 1 true true true .synthesizeAck false 0x01#8 1 1).wf = true ∧
    (Config.mk 1 1 false false false .warnOnly true 0xFF#8 64 8).wf = true := by decide

end Sys2Proof.Tests
end

/-! ## Headers on the wire: what DECODE_HDR reads and what ENCODE_HDR writes

What each reader of the codec answers, in the wire's own terms (`wireHalf`, `wireAddress`, `wireLen`), and which bytes and
which bits of the frame control word its answer depends on. -/

namespace Sys2Proof.Machine

variable {L : FcLayout} {buf buf' : List Byte} {len cur n : Nat} {a : Address} {mode : BitVec 2} {fc fc' pan : Half}

/-! ### The readers -/

@[simp] theorem wireAddress_none (buf : List Byte) (pan : Half) (off : Nat) : wireAddress buf 0#2 pan off = .none := rfl

theorem wireAlen_le (mode : BitVec 2) : wireAlen mode ≤ 8 := by
  unfold wireAlen
  split
  · omega
  · split <;> omega

/-- An address off the wire carries no PAN id but the one it was read with. -/
theorem pan_eq_of_wireAddress {off : Nat} {p : Half} (h : (wireAddress buf mode pan off).pan? = some p) : p = pan := by
  unfold wireAddress at h
  split at h
  · cases h
  · split at h <;> exact (Option.some.inj h).symm

/-- R138, R139: an address field is accepted exactly when it ends within the declared length. -/
theorem readAddress_eq_ok (hm : mode ≠ 0#2) :
    readAddress buf len cur mode pan = .ok (a, n) ↔
      n = cur + wireAlen mode ∧ n ≤ len ∧ a = wireAddress buf mode pan cur := by
  unfold readAddress wireAlen wireAddress
  rw [if_neg hm, if_neg hm]
  split
  · cases hr : readHalf buf len cur with
    | none =>
      have hshort := readHalf_eq_none.1 hr
      simp only [reduceCtorEq, false_iff]
      omega
    | some v =>
      obtain ⟨hlen, rfl⟩ := readHalf_eq_some.1 hr
      simp only [Except.ok.injEq, Prod.mk.injEq, wireHalf]
      grind
  · cases hr : readLong buf len cur with
    | none =>
      have hshort := readLong_eq_none.1 hr
      simp only [reduceCtorEq, false_iff]
      omega
    | some v =>
      obtain ⟨hlen, rfl⟩ := readLong_eq_some.1 hr
      simp only [Except.ok.injEq, Prod.mk.injEq, LongAddr.rev8]
      grind

/-- R138: a PAN id and an address field, likewise. -/
theorem readPanAddress_eq_ok (hm : mode ≠ 0#2) :
    readPanAddress buf len cur mode = .ok (a, n) ↔
      n = cur + (2 + wireAlen mode) ∧ n ≤ len ∧ a = wireAddress buf mode (wireHalf buf cur) (cur + 2) := by
  unfold readPanAddress
  cases hr : readHalf buf len cur with
  | none =>
    have hshort := readHalf_eq_none.1 hr
    simp only [reduceCtorEq, false_iff]
    omega
  | some v =>
    obtain ⟨-, rfl⟩ := readHalf_eq_some.1 hr
    simp only [readAddress_eq_ok hm, wireHalf, Nat.add_assoc]

/-- R138: the destination and the cursor behind it. -/
theorem readDst_eq_ok (hcur : cur ≤ len) :
    readDst L buf len cur fc = .ok (a, n) ↔
      n = cur + (if fcDam L fc ≠ 0#2 then 2 + wireAlen (fcDam L fc) else 0) ∧ n ≤ len ∧
        a = wireAddress buf (fcDam L fc) (wireHalf buf cur) (cur + 2) := by
  unfold readDst
  by_cases hm : fcDam L fc = 0#2
  · simp only [hm, if_pos, ne_eq, not_true_eq_false, if_false, wireAddress_none, Except.ok.injEq, Prod.mk.injEq]
    grind
  · rw [if_neg hm, if_pos hm, readPanAddress_eq_ok hm]

/-- R139: the source and the cursor behind it, `pan` the PAN id of the destination if it has one. -/
theorem readSrc_of_eq_ok {dst : Address} (hcur : cur ≤ len) (hpan : ∀ p, dst.pan? = some p → p = pan)
    (h : readSrc L buf len cur fc dst = .ok (a, n)) :
    n = cur + (if fcSam L fc ≠ 0#2 then (if fcIntrapan L fc = true then 0 else 2) + wireAlen (fcSam L fc) else 0) ∧
      n ≤ len ∧
      a = if fcIntrapan L fc = true then wireAddress buf (fcSam L fc) pan cur
        else wireAddress buf (fcSam L fc) (wireHalf buf cur) (cur + 2) := by
  unfold readSrc at h
  by_cases hm : fcSam L fc = 0#2
  · rw [if_pos hm] at h
    cases h
    simp [hm, hcur]
  · rw [if_neg hm] at h
    split at h
    case h_1 p hip hp =>
      cases hpan p hp
      simpa [hm, hip] using (readAddress_eq_ok hm).1 h
    case h_2 => cases h
    case h_3 hip => simpa [hm, hip] using (readPanAddress_eq_ok hm).1 h

/-- R130, R141: a header is accepted exactly when no check fails and both addresses are read. -/
theorem decodeHdr_eq_ok {md : Md} :
    decodeHdr L buf len = .ok md ↔
      3 ≤ len ∧ fcFault L (wireHalf buf 0) = none ∧ ∃ dst cur src n,
        readDst L buf len 3 (wireHalf buf 0) = .ok (dst, cur) ∧
        readSrc L buf len cur (wireHalf buf 0) dst = .ok (src, n) ∧
        md = Md.ofHeader L (wireHalf buf 0) (byteAt buf 2) dst src n := by
  unfold decodeHdr wireHalf
  by_cases hlen : len < hdrMin
  · have : ¬ 3 ≤ len := by simpa [hdrMin] using hlen
    simp [hlen, this]
  · have : 3 ≤ len := by simpa [hdrMin] using hlen
    simp only [hlen, if_false, this, true_and]
    split
    case h_1 e he => simp [he]
    case h_2 he =>
      split
      case h_1 hd => simp [hd]
      case h_2 dst cur hd =>
        split
        case h_1 hs => simp [hd, hs]
        case h_2 src n hs =>
          simp only [he, hd, true_and, Except.ok.injEq, Prod.mk.injEq]
          grind

/-- R100: 3 to 23 bytes. -/
theorem wireLen_bounds (dam sam : BitVec 2) (ip : Bool) : 3 ≤ wireLen dam sam ip ∧ wireLen dam sam ip ≤ 23 := by
  have := wireAlen_le dam
  have := wireAlen_le sam
  unfold wireLen
  split_ifs <;> omega

/-- Settles O9: what an accepted header's fields are, from what its two address readers answer. -/
theorem decodedHeaderFromWire : Obligations.DecodedHeaderFromWire := by
  intro buf len md h
  obtain ⟨hlen, -, dst, cur, src, n, hdst, hsrc, rfl⟩ := decodeHdr_eq_ok.1 h
  obtain ⟨rfl, hcur, rfl⟩ := (readDst_eq_ok hlen).1 hdst
  obtain ⟨hn, hnlen, rfl⟩ := readSrc_of_eq_ok hcur (fun _ => pan_eq_of_wireAddress) hsrc
  have hwire : n = wireLen (fcDam fcLayout (wireHalf buf 0)) (fcSam fcLayout (wireHalf buf 0))
      (fcIntrapan fcLayout (wireHalf buf 0)) := hn
  obtain ⟨hmin, hmax⟩ := wireLen_bounds (fcDam fcLayout (wireHalf buf 0)) (fcSam fcLayout (wireHalf buf 0))
    (fcIntrapan fcLayout (wireHalf buf 0))
  exact ⟨rfl, rfl, rfl, rfl, rfl, rfl, rfl, rfl, rfl, rfl, hwire, hwire ▸ hmin, hwire ▸ hmax, hnlen, rfl⟩

/-! ### What the readers depend on -/

theorem readHalf_congr (h : ∀ k, cur ≤ k → k < len → byteAt buf k = byteAt buf' k) :
    readHalf buf len cur = readHalf buf' len cur := by
  unfold readHalf
  split
  · rfl
  · simp (disch := omega) only [h]

theorem readLong_congr (h : ∀ k, cur ≤ k → k < len → byteAt buf k = byteAt buf' k) :
    readLong buf len cur = readLong buf' len cur := by
  unfold readLong
  split
  · rfl
  · simp (disch := omega) only [h]

theorem readAddress_congr (h : ∀ k, cur ≤ k → k < len → byteAt buf k = byteAt buf' k) (mode : BitVec 2) (pan : Half) :
    readAddress buf len cur mode pan = readAddress buf' len cur mode pan := by
  unfold readAddress
  rw [readHalf_congr h, readLong_congr h]

theorem readPanAddress_congr (h : ∀ k, cur ≤ k → k < len → byteAt buf k = byteAt buf' k) (mode : BitVec 2) :
    readPanAddress buf len cur mode = readPanAddress buf' len cur mode := by
  unfold readPanAddress
  rw [readHalf_congr h]
  split
  · exact readAddress_congr (fun k hk => h k (by omega)) mode _
  · rfl

/-- The destination is read from the bytes at the cursor and beyond, by its mode. -/
theorem readDst_congr (h : ∀ k, cur ≤ k → k < len → byteAt buf k = byteAt buf' k) (hdam : fcDam L fc = fcDam L fc') :
    readDst L buf len cur fc = readDst L buf' len cur fc' := by
  unfold readDst
  rw [hdam, readPanAddress_congr h]

/-- The source is read from the bytes at the cursor and beyond, by its mode and the compression bit. -/
theorem readSrc_congr (h : ∀ k, cur ≤ k → k < len → byteAt buf k = byteAt buf' k) (hsam : fcSam L fc = fcSam L fc')
    (hip : fcIntrapan L fc = fcIntrapan L fc') (dst : Address) :
    readSrc L buf len cur fc dst = readSrc L buf' len cur fc' dst := by
  unfold readSrc
  rw [hsam, hip, readPanAddress_congr h]
  simp only [readAddress_congr h]

/-! ### The reserved bits of the frame control word (R96) -/

/-- Equality of the bits that are not reserved: 0x333F is [2:0], 3, 4, 5, [9:8] and [13:12]. -/
def SameFcFields (fc fc' : Half) : Prop := fc &&& 0x333F#16 = fc' &&& 0x333F#16

/-- A bit under the mask is the same in both words. -/
theorem SameFcFields.getLsbD (h : SameFcFields fc fc') {i : Nat} (hi : (0x333F#16).getLsbD i = true) :
    fc.getLsbD i = fc'.getLsbD i := by
  have := congrArg (fun w => BitVec.getLsbD w i) h
  simpa only [BitVec.getLsbD_and, hi, Bool.and_true] using this

/-- A field under the mask is the same in both words. -/
theorem SameFcFields.extractLsb' (h : SameFcFields fc fc') {off width : Nat}
    (hmask : ∀ i < width, (0x333F#16).getLsbD (off + i) = true) : fc.extractLsb' off width = fc'.extractLsb' off width := by
  ext i hi
  simpa only [BitVec.getElem_extractLsb'] using h.getLsbD (hmask i hi)

section
variable (h : SameFcFields fc fc')
include h

theorem SameFcFields.fcType_eq : fcType fc = fcType fc' := h.extractLsb' (by decide)

theorem SameFcFields.fcSec_eq : fcSec fc = fcSec fc' := h.getLsbD (by decide)

theorem SameFcFields.fcAckreq_eq : fcAckreq fcLayout fc = fcAckreq fcLayout fc' := h.getLsbD (by decide)

theorem SameFcFields.fcIntrapan_eq : fcIntrapan fcLayout fc = fcIntrapan fcLayout fc' := h.getLsbD (by decide)

theorem SameFcFields.fcDam_eq : fcDam fcLayout fc = fcDam fcLayout fc' := h.extractLsb' (by decide)

theorem SameFcFields.fcSam_eq : fcSam fcLayout fc = fcSam fcLayout fc' := h.extractLsb' (by decide)

theorem SameFcFields.fcFault_eq : fcFault fcLayout fc = fcFault fcLayout fc' := by
  unfold fcFault
  rw [h.fcSec_eq, h.fcDam_eq, h.fcSam_eq, h.fcType_eq, h.fcIntrapan_eq]

/-- Of the word itself, a header keeps nothing but the fields and `MD.fc`. -/
theorem SameFcFields.ofHeader_eq (seq : Byte) (dst src : Address) (n : Nat) :
    Md.ofHeader fcLayout fc' seq dst src n = { Md.ofHeader fcLayout fc seq dst src n with fc := fc' } := by
  simp only [Md.ofHeader, h.fcType_eq, h.fcSec_eq, h.fcAckreq_eq, h.fcIntrapan_eq, h.fcDam_eq, h.fcSam_eq]

end

/-- R96: with the same bytes from `buf[2]` on and the same fields of the frame control word, DECODE_HDR answers the same
but for `MD.fc`. -/
theorem decodeHdr_of_sameFcFields (hbytes : ∀ k, 2 ≤ k → byteAt buf k = byteAt buf' k)
    (h : SameFcFields (wireHalf buf 0) (wireHalf buf' 0)) (len : Nat) :
    decodeHdr fcLayout buf' len =
      (decodeHdr fcLayout buf len).map fun md => { md with fc := wireHalf buf' 0 } := by
  have hdst : readDst fcLayout buf' len 3 (wireHalf buf' 0) = readDst fcLayout buf len 3 (wireHalf buf 0) :=
    (readDst_congr (fun k hk _ => hbytes k (by omega)) h.fcDam_eq).symm
  simp only [decodeHdr, wireHalf, Nat.zero_add] at h hdst ⊢
  split
  case isTrue => rfl
  case isFalse hlen =>
    have hmin : 3 ≤ len := by simpa [hdrMin] using hlen
    rw [hdst, ← h.fcFault_eq, ← hbytes 2 (by omega)]
    split
    case h_1 => rfl
    case h_2 =>
      split
      case h_1 => rfl
      case h_2 dst cur hd =>
        have hcur := ((readDst_eq_ok hmin).1 hd).1
        rw [← readSrc_congr (fun k hk _ => hbytes k (by omega)) h.fcSam_eq h.fcIntrapan_eq]
        split
        case h_1 => rfl
        case h_2 => exact congrArg _ (h.ofHeader_eq ..)

/-! ### ENCODE_HDR -/

/-- R145: ENCODE_HDR answers a header exactly when nothing is refused. -/
theorem encodeHdr_eq_ok {type seq : Byte} {sec ackreq : Bool} {dst : Address} {src : Option Address} {v : Snap}
    {hdr : List Byte} :
    encodeHdr L type sec ackreq dst src seq v = .ok hdr ↔
      frameRefusal type sec dst = none ∧ hdr = headerBytes L (type.setWidth 3) ackreq dst (sourceOf src v) seq := by
  unfold encodeHdr
  split
  case h_1 he => simp [he]
  case h_2 he => simp [he, eq_comm]

/-- R150, R151: the first two bytes of a header are its frame control word. -/
theorem wireHalf_headerBytes (type : BitVec 3) (ackreq : Bool) (dst src : Address) (seq : Byte) :
    wireHalf (headerBytes L type ackreq dst src seq) 0 =
      fcWord L type ackreq (compress dst src) dst.mode src.mode :=
  le16_lo_hi _

/-- R160: an acknowledgement's frame control word is its type alone. -/
theorem wireHalf_ackHeader (seq : Byte) : wireHalf (ackHeader seq) 0 = 0x0002#16 := by
  change le16 0x02#8 0x00#8 = 0x0002#16
  decide

/-- R150: the encoder's frame control word has every reserved bit 0; 0xCCC0 is [7:6], [11:10] and [15:14]. -/
theorem fcWord_reserved (type : BitVec 3) (ackreq ip : Bool) (dst src : Mode) :
    fcWord fcLayout type ackreq ip dst src &&& 0xCCC0#16 = 0#16 := by
  have htype : type.setWidth 16 &&& 0xCCC0#16 = 0#16 := by revert type; decide
  have hack : (BitVec.ofBool ackreq).setWidth 16 <<< 4 &&& 0xCCC0#16 = 0#16 := by cases ackreq <;> rfl
  have hip : (BitVec.ofBool ip).setWidth 16 <<< 5 &&& 0xCCC0#16 = 0#16 := by cases ip <;> rfl
  have hdam : dst.bits.setWidth 16 <<< 8 &&& 0xCCC0#16 = 0#16 := by cases dst <;> rfl
  have hsam : src.bits.setWidth 16 <<< 12 &&& 0xCCC0#16 = 0#16 := by cases src <;> rfl
  simp only [fcWord, fcLayout, BitVec.and_or_distrib_right, htype, hack, hip, hdam, hsam, BitVec.or_self]

/-- Settles O11: the decoder through `decodeHdr_of_sameFcFields`, the encoder through the word it assembles. -/
theorem reservedBitsIgnored : Obligations.ReservedBitsIgnored := by
  refine ⟨fun buf buf' len hbytes h => ?_, fun type sec ackreq dst src seq v hdr henc => ?_, fun seq => ?_⟩
  · have hdec := decodeHdr_of_sameFcFields hbytes h len
    exact ⟨fun md hok => by rw [hdec, hok]; rfl, fun e herr => by rw [hdec, herr]; rfl⟩
  · obtain ⟨-, rfl⟩ := encodeHdr_eq_ok.1 henc
    rw [wireHalf_headerBytes, fcWord_reserved]
  · rw [wireHalf_ackHeader]
    decide

end Sys2Proof.Machine

/-! ## DECODE_HDR as one description of the accepted header

Where DECODE_HDR succeeds, its answer is `headerAt`: the metadata of the wire's tables. Where the frame control word passes
and the declared length is too small, it answers `Truncated`. -/

namespace Sys2Proof.Machine

variable {L : FcLayout} {buf buf' : List Byte} {len cur n : Nat} {a dst : Address} {mode : BitVec 2} {fc pan : Half}

/-! ### The checks of the frame control word -/

/-- R141: the word passes exactly when none of the checks (2) to (5) applies. -/
theorem fcFault_eq_none :
    fcFault L fc = none ↔ fcSec fc = false ∧ ¬ (fcDam L fc = 1#2 ∨ fcSam L fc = 1#2) ∧
      ¬ (fcType fc = 2#3 ∧ (fcDam L fc ≠ 0#2 ∨ fcSam L fc ≠ 0#2)) ∧
      ¬ (fcIntrapan L fc = true ∧ fcDam L fc = 0#2 ∧ fcSam L fc ≠ 0#2) := by
  unfold fcFault
  split_ifs <;> simp_all

theorem pan_wireAddress {off : Nat} (hm : mode ≠ 0#2) : (wireAddress buf mode pan off).pan? = some pan := by
  unfold wireAddress
  rw [if_neg hm]
  split <;> rfl

/-- R136: with an accepted word, a compressed source has a destination to take its PAN id from. -/
theorem pan_dst_of_intrapan {off : Nat} (hfc : fcFault L fc = none) (hip : fcIntrapan L fc = true)
    (hsam : fcSam L fc ≠ 0#2) : (wireAddress buf (fcDam L fc) pan off).pan? = some pan := by
  obtain ⟨-, -, -, hcombo⟩ := fcFault_eq_none.1 hfc
  exact pan_wireAddress fun hdam => hcombo ⟨hip, hdam, hsam⟩

/-! ### The accepted header -/

/-- The offset behind the destination (R100). -/
def dstEnd (dam : BitVec 2) : Nat := 3 + (if dam ≠ 0#2 then 2 + wireAlen dam else 0)

/-- The destination as the wire has it (R106). -/
def dstAt (buf : List Byte) (dam : BitVec 2) : Address := wireAddress buf dam (wireHalf buf 3) 5

/-- The source as the wire has it, its PAN id the destination's when compressed (R106). -/
def srcAt (buf : List Byte) (dam sam : BitVec 2) (ip : Bool) : Address :=
  if ip = true then wireAddress buf sam (wireHalf buf 3) (dstEnd dam)
  else wireAddress buf sam (wireHalf buf (dstEnd dam)) (dstEnd dam + 2)

/-- The metadata of a header, field by field from the wire (R100, R106, R133, R140). -/
def headerAt (L : FcLayout) (buf : List Byte) : Md :=
  let fc := wireHalf buf 0
  Md.ofHeader L fc (byteAt buf 2) (dstAt buf (fcDam L fc)) (srcAt buf (fcDam L fc) (fcSam L fc) (fcIntrapan L fc))
    (wireLen (fcDam L fc) (fcSam L fc) (fcIntrapan L fc))

theorem headerAt_hdrLen (L : FcLayout) (buf : List Byte) :
    (headerAt L buf).hdrLen =
      wireLen (fcDam L (wireHalf buf 0)) (fcSam L (wireHalf buf 0)) (fcIntrapan L (wireHalf buf 0)) := rfl

/-- R139: the source is accepted exactly when it ends within the declared length, given that a compressed one has a PAN
id. -/
theorem readSrc_eq_ok (hcur : cur ≤ len)
    (hpan : fcIntrapan L fc = true → fcSam L fc ≠ 0#2 → dst.pan? = some pan) :
    readSrc L buf len cur fc dst = .ok (a, n) ↔
      n = cur + (if fcSam L fc ≠ 0#2 then (if fcIntrapan L fc = true then 0 else 2) + wireAlen (fcSam L fc) else 0) ∧
      n ≤ len ∧
      a = if fcIntrapan L fc = true then wireAddress buf (fcSam L fc) pan cur
        else wireAddress buf (fcSam L fc) (wireHalf buf cur) (cur + 2) := by
  unfold readSrc
  by_cases hm : fcSam L fc = 0#2
  · simp only [hm, if_pos, ne_eq, not_true_eq_false, if_false, wireAddress_none, ite_self, Except.ok.injEq,
      Prod.mk.injEq]
    grind
  · cases hip : fcIntrapan L fc with
    | true => simp [hm, hpan hip hm, readAddress_eq_ok hm]
    | false => simp [hm, readPanAddress_eq_ok hm]

/-- R130, R141: DECODE_HDR succeeds exactly when the frame control word passes and the header fits, with `headerAt`. -/
theorem decodeHdr_eq_ok_headerAt {md : Md} :
    decodeHdr L buf len = .ok md ↔
      fcFault L (wireHalf buf 0) = none ∧ (headerAt L buf).hdrLen ≤ len ∧ md = headerAt L buf := by
  have hmin := (wireLen_bounds (fcDam L (wireHalf buf 0)) (fcSam L (wireHalf buf 0)) (fcIntrapan L (wireHalf buf 0))).1
  rw [decodeHdr_eq_ok, headerAt_hdrLen]
  constructor
  · rintro ⟨hlen, hfc, dst, cur, src, n, hdst, hsrc, rfl⟩
    obtain ⟨rfl, hcur, rfl⟩ := (readDst_eq_ok hlen).1 hdst
    obtain ⟨rfl, hn, rfl⟩ := (readSrc_eq_ok hcur (pan_dst_of_intrapan hfc)).1 hsrc
    exact ⟨hfc, hn, rfl⟩
  · rintro ⟨hfc, hlen, rfl⟩
    have hcur : dstEnd (fcDam L (wireHalf buf 0)) ≤ len := le_trans (Nat.le_add_right ..) hlen
    refine ⟨by omega, hfc, dstAt buf _, dstEnd (fcDam L (wireHalf buf 0)), srcAt buf _ _ _, _, ?_, ?_, rfl⟩
    · exact (readDst_eq_ok (by omega)).2 ⟨rfl, hcur, rfl⟩
    · exact (readSrc_eq_ok hcur (pan_dst_of_intrapan hfc)).2 ⟨rfl, hlen, rfl⟩

/-! ### The header cut short -/

theorem readAddress_error {e : HdrError × Nat} (h : readAddress buf len cur mode pan = .error e) : e.1 = .truncated := by
  unfold readAddress at h
  split at h <;> split at h <;> cases h <;> rfl

theorem readPanAddress_error {e : HdrError × Nat} (h : readPanAddress buf len cur mode = .error e) :
    e.1 = .truncated := by
  unfold readPanAddress at h
  split at h
  · exact readAddress_error h
  · cases h
    rfl

theorem readDst_error {e : HdrError × Nat} (h : readDst L buf len cur fc = .error e) : e.1 = .truncated := by
  unfold readDst at h
  split at h
  · cases h
  · exact readPanAddress_error h

theorem readSrc_error {e : HdrError × Nat} (hpan : fcIntrapan L fc = true → fcSam L fc ≠ 0#2 → dst.pan? = some pan)
    (h : readSrc L buf len cur fc dst = .error e) : e.1 = .truncated := by
  unfold readSrc at h
  split at h
  case isTrue => cases h
  case isFalse hm =>
    split at h
    case h_1 => exact readAddress_error h
    case h_2 hip hnone => cases hnone.symm.trans (hpan hip hm)
    case h_3 => exact readPanAddress_error h

/-- R131: fewer than three bytes. -/
theorem decodeHdr_of_lt_three (hlen : len < 3) : decodeHdr L buf len = .error (.tooShort, 0) := if_pos hlen

/-- R62: with three bytes and an accepted frame control word, the only error left is `Truncated`. -/
theorem decodeHdr_error {e : HdrError × Nat} (hlen : 3 ≤ len) (hfc : fcFault L (wireHalf buf 0) = none)
    (h : decodeHdr L buf len = .error e) : e.1 = .truncated := by
  unfold decodeHdr at h
  rw [if_neg (by simpa [hdrMin] using hlen)] at h
  simp only [show le16 (byteAt buf 0) (byteAt buf 1) = wireHalf buf 0 from rfl, hfc] at h
  split at h
  case h_1 hdst =>
    cases h
    exact readDst_error hdst
  case h_2 dst cur hdst =>
    obtain ⟨-, -, rfl⟩ := (readDst_eq_ok hlen).1 hdst
    split at h
    case h_1 hsrc =>
      cases h
      exact readSrc_error (pan_dst_of_intrapan hfc) hsrc
    case h_2 => cases h

/-- R137: an accepted frame control word whose header does not fit within the declared length. -/
theorem decodeHdr_of_lt_hdrLen (hlen : 3 ≤ len) (hfc : fcFault L (wireHalf buf 0) = none)
    (hshort : len < (headerAt L buf).hdrLen) : ∃ c, decodeHdr L buf len = .error (.truncated, c) := by
  cases h : decodeHdr L buf len with
  | ok md =>
    obtain ⟨-, hfits, -⟩ := decodeHdr_eq_ok_headerAt.1 h
    omega
  | error e =>
    obtain ⟨err, c⟩ := e
    cases decodeHdr_error hlen hfc h
    exact ⟨c, rfl⟩

/-! ### The bytes DECODE_HDR depends on (R142) -/

/-- R142: the declared length bounds what is read. -/
theorem decodeHdr_congr (h : ∀ k < len, byteAt buf k = byteAt buf' k) : decodeHdr L buf len = decodeHdr L buf' len := by
  by_cases hlen : len < 3
  · rw [decodeHdr_of_lt_three hlen, decodeHdr_of_lt_three hlen]
  · have hdst := fun fc => readDst_congr (L := L) (cur := 3) (fun k _ => h k) (rfl : fcDam L fc = fcDam L fc)
    have hsrc := fun cur fc => readSrc_congr (L := L) (cur := cur) (fun k _ => h k) (rfl : fcSam L fc = fcSam L fc) rfl
    unfold decodeHdr
    rw [h 0 (by omega), h 1 (by omega), h 2 (by omega)]
    simp only [hdst, hsrc]

/-- A header that was accepted is accepted at every declared length that covers it. -/
theorem decodeHdr_eq_ok_of_hdrLen_le {md : Md} (h : decodeHdr L buf len = .ok md) (hlen : md.hdrLen ≤ n) :
    decodeHdr L buf n = .ok md := by
  obtain ⟨hfc, -, rfl⟩ := decodeHdr_eq_ok_headerAt.1 h
  exact decodeHdr_eq_ok_headerAt.2 ⟨hfc, hlen, rfl⟩

/-- R130, R345: as a command, DECODE_HDR gives a response and does nothing else. -/
theorem execDecodeHdr_eq_next {bytes : List Byte} {s t : State} (h : execDecodeHdr bytes s = .next t) :
    ∃ response, t = s.replied response := by
  unfold execDecodeHdr State.unitOp at h
  split at h
  · split at h <;> cases h <;> exact ⟨_, rfl⟩
  · cases h
    exact ⟨_, rfl⟩

/-- Settles O8: the second part cuts the buffer to the header, where `decodeHdr_congr` applies. -/
theorem decodeReadsHeaderOnly : Obligations.DecodeReadsHeaderOnly := by
  refine ⟨fun L buf buf' len => decodeHdr_congr, fun L buf buf' len len' md h hbytes hlen => ?_, fun bytes s t h => ?_⟩
  · have hcut : decodeHdr L buf md.hdrLen = .ok md := decodeHdr_eq_ok_of_hdrLen_le h le_rfl
    exact decodeHdr_eq_ok_of_hdrLen_le (decodeHdr_congr hbytes ▸ hcut) hlen
  · obtain ⟨response, rfl⟩ := execDecodeHdr_eq_next h
    rfl

end Sys2Proof.Machine

/-! ## The encoded header, and what DECODE_HDR reads from it -/

namespace Sys2Proof.Machine

variable {L : FcLayout}

/-! ### The frame control word of the encoder -/

/-- The bits of the encoder's word, in every layout (R150). -/
theorem getLsbD_fcWord (L : FcLayout) (type : BitVec 3) (ackreq ip : Bool) (dst src : Mode) {i : Nat} (hi : i < 16) :
    (fcWord L type ackreq ip dst src).getLsbD i =
      (type.getLsbD i || (decide (i = L.ackreq) && ackreq) || (decide (i = L.intrapan) && ip) ||
        (decide (L.dam ≤ i) && dst.bits.getLsbD (i - L.dam)) || (decide (L.sam ≤ i) && src.bits.getLsbD (i - L.sam))) := by
  have hflag (b : Bool) (n : Nat) :
      ((BitVec.ofBool b).setWidth 16 <<< n).getLsbD i = (decide (i = n) && b) := by
    simp only [BitVec.getLsbD_shiftLeft, BitVec.getLsbD_setWidth, BitVec.getLsbD_ofBool]
    grind
  have hmode (m : Mode) (n : Nat) :
      (m.bits.setWidth 16 <<< n).getLsbD i = (decide (n ≤ i) && m.bits.getLsbD (i - n)) := by
    simp only [BitVec.getLsbD_shiftLeft, BitVec.getLsbD_setWidth]
    grind
  simp only [fcWord, BitVec.getLsbD_or, hflag, hmode, BitVec.getLsbD_setWidth, hi, decide_true, Bool.true_and]

/-- The distances `FcLayout.disjoint` stands for. -/
theorem FcLayout.disjoint_iff :
    L.disjoint = true ↔ (4 ≤ L.ackreq ∧ L.ackreq < 16) ∧ (4 ≤ L.intrapan ∧ L.intrapan < 16) ∧
      (4 ≤ L.dam ∧ L.dam < 15) ∧ (4 ≤ L.sam ∧ L.sam < 15) ∧ L.ackreq ≠ L.intrapan ∧
      (∀ b ∈ [L.dam, L.dam + 1, L.sam, L.sam + 1], b ≠ L.ackreq ∧ b ≠ L.intrapan) ∧
      (L.dam + 1 < L.sam ∨ L.sam + 1 < L.dam) := by
  simp [FcLayout.disjoint, and_assoc]

/-! Each field is read back from the word, since in a disjoint layout no other field has a bit in it. -/

section
variable (h : L.disjoint = true) (type : BitVec 3) (ackreq ip : Bool) (dst src : Mode)
include h

theorem fcType_fcWord : fcType (fcWord L type ackreq ip dst src) = type := by
  rw [FcLayout.disjoint_iff] at h
  ext k hk
  simp only [fcType, BitVec.getElem_extractLsb']
  rw [getLsbD_fcWord L _ _ _ _ _ (by omega)]
  grind

theorem fcSec_fcWord : fcSec (fcWord L type ackreq ip dst src) = false := by
  rw [FcLayout.disjoint_iff] at h
  rw [fcSec, getLsbD_fcWord L _ _ _ _ _ (by omega)]
  grind

theorem fcAckreq_fcWord : fcAckreq L (fcWord L type ackreq ip dst src) = ackreq := by
  rw [FcLayout.disjoint_iff] at h
  rw [fcAckreq, getLsbD_fcWord L _ _ _ _ _ (by omega)]
  grind

theorem fcIntrapan_fcWord : fcIntrapan L (fcWord L type ackreq ip dst src) = ip := by
  rw [FcLayout.disjoint_iff] at h
  rw [fcIntrapan, getLsbD_fcWord L _ _ _ _ _ (by omega)]
  grind

theorem fcDam_fcWord : fcDam L (fcWord L type ackreq ip dst src) = dst.bits := by
  rw [FcLayout.disjoint_iff] at h
  ext k hk
  simp only [fcDam, BitVec.getElem_extractLsb']
  rw [getLsbD_fcWord L _ _ _ _ _ (by omega)]
  grind

theorem fcSam_fcWord : fcSam L (fcWord L type ackreq ip dst src) = src.bits := by
  rw [FcLayout.disjoint_iff] at h
  ext k hk
  simp only [fcSam, BitVec.getElem_extractLsb']
  rw [getLsbD_fcWord L _ _ _ _ _ (by omega)]
  grind

end

theorem Mode.bits_ne_one (m : Mode) : m.bits ≠ 1#2 := by cases m <;> decide

theorem Mode.bits_eq_zero {m : Mode} : m.bits = 0#2 ↔ m = .none := by cases m <;> decide

/-- R146, R147: ENCODE_HDR refuses nothing exactly for these operands. -/
theorem frameRefusal_eq_none {type : Byte} {sec : Bool} {dst : Address} :
    frameRefusal type sec dst = none ↔ dst.mode ≠ .none ∧ sec = false ∧ type ≠ 2#8 ∧ type.toNat < 4 := by
  unfold frameRefusal
  split_ifs <;> simp_all

/-- The checks of DECODE_HDR pass the encoder's word. -/
theorem fcFault_fcWord (h : L.disjoint = true) {type : BitVec 3} (htype : type ≠ 2#3) (ackreq ip : Bool) {dst : Mode}
    (hdst : dst ≠ .none) (src : Mode) : fcFault L (fcWord L type ackreq ip dst src) = none := by
  rw [fcFault_eq_none, fcSec_fcWord h, fcDam_fcWord h, fcSam_fcWord h, fcType_fcWord h, fcIntrapan_fcWord h]
  simp [Mode.bits_ne_one, Mode.bits_eq_zero, hdst, htype]

/-- R93, R150: in the spec's layout the encoder's word is the one whose fields are the operands. -/
theorem fcWord_fcLayout (type : BitVec 3) (ackreq ip : Bool) (dst src : Mode) :
    fcWord fcLayout type ackreq ip dst src =
      FrameCtl.word ⟨false, ackreq, ip, 0#2, dst.bits, 0#2, src.bits, 0#2⟩ type := by
  apply BitVec.eq_of_getLsbD_eq
  intro i hi
  rw [getLsbD_fcWord fcLayout _ _ _ _ _ hi]
  simp only [FrameCtl.word, BitVec.getLsbD_append, BitVec.getLsbD_ofBool, BitVec.getLsbD_zero, fcLayout]
  grind

/-! ### The address fields on the wire -/

/-- R149: the source's PAN id is left out exactly when both addresses carry the same one and it is not the broadcast
PAN. -/
theorem compress_eq_true {dst src : Address} :
    compress dst src = true ↔ ∃ p, dst.pan? = some p ∧ src.pan? = some p ∧ p ≠ 0xFFFF#16 := by
  unfold compress
  split
  case h_1 d p hd hp =>
    simp only [hd, hp, panBroadcast]
    grind
  case h_2 hnone =>
    simp only [Bool.false_eq_true, false_iff]
    rintro ⟨p, hd, hp, -⟩
    exact hnone p p hd hp

/-- An address field, its PAN id before it unless it is left out (R151). -/
def addrField (bare : Bool) (a : Address) : List Byte := (if bare = true then [] else panBytes a) ++ addrBytes a

theorem length_addrField (bare : Bool) (a : Address) :
    (addrField bare a).length =
      if a.mode.bits ≠ 0#2 then (if bare = true then 0 else 2) + wireAlen a.mode.bits else 0 := by
  cases a <;> cases bare <;> rfl

theorem headerBytes_eq (L : FcLayout) (type : BitVec 3) (ackreq : Bool) (dst src : Address) (seq : Byte) :
    headerBytes L type ackreq dst src seq =
      halfBytes (fcWord L type ackreq (compress dst src) dst.mode src.mode) ++ [seq] ++
        (addrField false dst ++ addrField (compress dst src) src) := by
  simp [headerBytes, addrField]

/-- R100, R152. -/
theorem length_headerBytes (L : FcLayout) (type : BitVec 3) (ackreq : Bool) (dst src : Address) (seq : Byte) :
    (headerBytes L type ackreq dst src seq).length = wireLen dst.mode.bits src.mode.bits (compress dst src) := by
  rw [headerBytes_eq, List.length_append, List.length_append (as := addrField _ _), length_addrField, length_addrField,
    wireLen, Nat.add_assoc]
  rfl

/-! ### Reading behind the bytes before a field -/

section
variable {pre rest : List Byte} {off : Nat}

theorem byteAt_append (h : pre.length = off) (k : Nat) : byteAt (pre ++ rest) (off + k) = byteAt rest k := by
  subst h
  rw [byteAt, List.getElem?_append_right (Nat.le_add_right ..), Nat.add_sub_cancel_left, byteAt]

theorem wireHalf_append (h : pre.length = off) (k : Nat) : wireHalf (pre ++ rest) (off + k) = wireHalf rest k := by
  simp only [wireHalf, Nat.add_assoc, byteAt_append h]

theorem wireAddress_append (h : pre.length = off) (mode : BitVec 2) (pan : Half) (k : Nat) :
    wireAddress (pre ++ rest) mode pan (off + k) = wireAddress rest mode pan k := by
  simp only [wireAddress, Nat.add_assoc, byteAt_append h, wireHalf_append h]

end

theorem wireHalf_addrField {a : Address} {p : Half} (h : a.pan? = some p) (rest : List Byte) :
    wireHalf (addrField false a ++ rest) 0 = p := by
  cases a <;> cases h <;> exact le16_lo_hi _

/-- A field without PAN id is read back given the PAN id. -/
theorem wireAddress_bareField {a : Address} {p : Half} (h : a.pan? = some p) (rest : List Byte) :
    wireAddress (addrField true a ++ rest) a.mode.bits p 0 = a := by
  cases a <;> cases h
  · exact congrArg _ (le16_lo_hi _)
  · rfl

/-- A field with its PAN id is read back from its own bytes. -/
theorem wireAddress_addrField (a : Address) (rest : List Byte) :
    wireAddress (addrField false a ++ rest) a.mode.bits (wireHalf (addrField false a ++ rest) 0) 2 = a := by
  cases a with
  | none => rfl
  | short p x => exact congrArg₂ _ (le16_lo_hi p) (le16_lo_hi x)
  | long p x => exact congrArg (Address.long · x) (le16_lo_hi p)

/-! ### The encoded header read back -/

section
variable (L : FcLayout) (type : BitVec 3) (ackreq : Bool) (dst src : Address) (seq : Byte) (payload : List Byte)

theorem wireHalf_headerBytes_append : wireHalf (headerBytes L type ackreq dst src seq ++ payload) 0 =
    fcWord L type ackreq (compress dst src) dst.mode src.mode := le16_lo_hi _

/-- R151: the destination stands behind the sequence number. -/
theorem dstAt_headerBytes : dstAt (headerBytes L type ackreq dst src seq ++ payload) dst.mode.bits = dst := by
  rw [headerBytes_eq, List.append_assoc, List.append_assoc (addrField _ _)]
  refine (wireAddress_append (off := 3) rfl _ _ 2).trans ?_
  rw [wireHalf_append (off := 3) rfl 0]
  exact wireAddress_addrField dst _

/-- R149: where a compressed source's PAN id is taken from. -/
theorem dstPan_headerBytes {p : Half} (h : dst.pan? = some p) :
    wireHalf (headerBytes L type ackreq dst src seq ++ payload) 3 = p := by
  rw [headerBytes_eq, List.append_assoc, List.append_assoc (addrField _ _)]
  exact (wireHalf_append (off := 3) rfl 0).trans (wireHalf_addrField h _)

/-- R151: the source stands behind the destination, with or without its PAN id. -/
theorem srcAt_headerBytes :
    srcAt (headerBytes L type ackreq dst src seq ++ payload) dst.mode.bits src.mode.bits (compress dst src) = src := by
  unfold srcAt
  have hsplit : headerBytes L type ackreq dst src seq ++ payload =
      (halfBytes (fcWord L type ackreq (compress dst src) dst.mode src.mode) ++ [seq] ++ addrField false dst) ++
        (addrField (compress dst src) src ++ payload) := by
    simp only [headerBytes_eq, List.append_assoc]
  have hpre : (halfBytes (fcWord L type ackreq (compress dst src) dst.mode src.mode) ++ [seq] ++
      addrField false dst).length = dstEnd dst.mode.bits := by
    rw [List.length_append, length_addrField]
    rfl
  split
  case isTrue hip =>
    obtain ⟨p, hdst, hsrc, -⟩ := compress_eq_true.1 hip
    rw [dstPan_headerBytes L type ackreq dst src seq payload hdst, hsplit, hip]
    rw [hip] at hpre
    exact (wireAddress_append hpre _ _ 0).trans (wireAddress_bareField hsrc _)
  case isFalse hip =>
    rw [Bool.not_eq_true] at hip
    rw [hsplit, hip]
    rw [hip] at hpre
    refine (wireAddress_append hpre _ _ 2).trans ?_
    rw [← Nat.add_zero (dstEnd _), wireHalf_append hpre 0]
    exact wireAddress_addrField src _

/-- R154: the header DECODE_HDR finds in an encoded one, whatever stands behind it, has the encoder's operands. -/
theorem headerAt_headerBytes (h : L.disjoint = true) :
    headerAt L (headerBytes L type ackreq dst src seq ++ payload) =
      { fc := fcWord L type ackreq (compress dst src) dst.mode src.mode, type := type, sec := false, ackreq := ackreq
        intrapan := compress dst src, dam := dst.mode.bits, sam := src.mode.bits, seq := seq, dst := dst, src := src
        hdrLen := (headerBytes L type ackreq dst src seq).length, scope := none } := by
  have hseq : byteAt (headerBytes L type ackreq dst src seq ++ payload) 2 = seq := rfl
  simp only [headerAt, Md.ofHeader, wireHalf_headerBytes_append, hseq, fcType_fcWord h, fcSec_fcWord h,
    fcAckreq_fcWord h, fcIntrapan_fcWord h, fcDam_fcWord h, fcSam_fcWord h, dstAt_headerBytes, srcAt_headerBytes, length_headerBytes]

end

/-- R145, R154: the checks of DECODE_HDR pass every header ENCODE_HDR answers, whatever stands behind it. -/
theorem fcFault_encodeHdr {type seq : Byte} {sec ackreq : Bool} {dst : Address} {src : Option Address} {v : Snap}
    {hdr : List Byte} (h : L.disjoint = true) (henc : encodeHdr L type sec ackreq dst src seq v = .ok hdr)
    (payload : List Byte) : fcFault L (wireHalf (hdr ++ payload) 0) = none := by
  obtain ⟨hrefusal, rfl⟩ := encodeHdr_eq_ok.1 henc
  obtain ⟨hdst, -, hack, htype⟩ := frameRefusal_eq_none.1 hrefusal
  have htype3 : type.setWidth 3 ≠ 2#3 := by bv_omega
  rw [wireHalf_headerBytes_append]
  exact fcFault_fcWord h htype3 _ _ hdst _

/-- Settles O6: the accepted header is `headerAt`, which has the encoder's operands. -/
theorem headerRoundTrip : Obligations.HeaderRoundTrip := by
  intro L type sec ackreq dst src seq v hdr payload hL henc
  have hfc := fcFault_encodeHdr hL henc payload
  obtain ⟨-, rfl⟩ := encodeHdr_eq_ok.1 henc
  have hmd := headerAt_headerBytes L (type.setWidth 3) ackreq dst (sourceOf src v) seq payload hL
  refine ⟨_, decodeHdr_eq_ok_headerAt.2 ⟨hfc, ?_, hmd.symm⟩, rfl, rfl, rfl, rfl, rfl, rfl, rfl, rfl, rfl, rfl, rfl⟩
  simp [hmd]

theorem byteAt_take {buf : List Byte} {n k : Nat} (hk : k < n) : byteAt (buf.take n) k = byteAt buf k := by
  rw [byteAt, List.getElem?_take_of_lt hk, byteAt]

/-- Settles O7: below its length an encoded header does not fit, and its frame control word passes. -/
theorem truncatedHeaderFails : Obligations.TruncatedHeaderFails := by
  refine ⟨fun L type sec ackreq dst src seq v hdr n hL henc hn => ⟨fun hshort => ?_, fun hlen => ?_⟩,
    fun L seq n hn => ⟨0, decodeHdr_of_lt_three hn⟩⟩
  · exact ⟨0, decodeHdr_of_lt_three hshort⟩
  · have hfc := fcFault_encodeHdr hL henc []
    obtain ⟨-, rfl⟩ := encodeHdr_eq_ok.1 henc
    have hmd := headerAt_headerBytes L (type.setWidth 3) ackreq dst (sourceOf src v) seq [] hL
    rw [List.append_nil] at hfc hmd
    rw [decodeHdr_congr fun k => byteAt_take]
    exact decodeHdr_of_lt_hdrLen hlen hfc (by rw [hmd]; exact hn)

/-! ### The header byte by byte -/

theorem lo_eq_setWidth (v : Half) : lo v = v.setWidth 8 :=
  BitVec.eq_of_toNat_eq (by rw [lo_toNat, BitVec.toNat_setWidth])

theorem hi_eq_setWidth (v : Half) : hi v = (v >>> 8).setWidth 8 :=
  BitVec.eq_of_toNat_eq (by
    have := v.isLt
    rw [hi_toNat, BitVec.toNat_setWidth, BitVec.toNat_ushiftRight, Nat.shiftRight_eq_div_pow]
    omega)

/-- R152: with a destination, at least a PAN id and a short address follow the first three bytes. -/
theorem seven_le_wireLen {dam : BitVec 2} (h : dam ≠ 0#2) (sam : BitVec 2) (ip : Bool) : 7 ≤ wireLen dam sam ip := by
  have halen : 2 ≤ wireAlen dam := by
    rw [wireAlen, if_neg h]
    split <;> decide
  unfold wireLen
  rw [if_pos h]
  omega

/-- Settles O14: the compression bit is `compress`, the frame control word `fcWord_fcLayout`. -/
theorem headerWireForm : Obligations.HeaderWireForm := by
  intro type ackreq dst src seq
  refine ⟨compress dst src, compress_eq_true, ?_, fun hdst => ?_⟩
  · intro low high pan field fc
    have hhalf (v : Half) : halfBytes v = [low v, high v] := by rw [halfBytes, lo_eq_setWidth, hi_eq_setWidth]
    have hpan (a : Address) : panBytes a = pan a := by
      cases a with
      | none => rfl
      | short p x => exact hhalf p
      | long p x => exact hhalf p
    have hfield (a : Address) : addrBytes a = field a := by
      cases a with
      | none => rfl
      | short p x => exact hhalf x
      | long p x => rfl
    have hfc : fcWord fcLayout type ackreq (compress dst src) dst.mode src.mode = fc := fcWord_fcLayout ..
    simp only [headerBytes, hfc, hhalf, hpan, hfield, List.cons_append, List.nil_append]
  · rw [length_headerBytes]
    exact ⟨rfl, seven_le_wireLen (mt Mode.bits_eq_zero.1 hdst) _ _, (wireLen_bounds _ _ _).2⟩

/-! ### The commands -/

/-- R148, R153: the encoder's source is the one given, or the one synthesized from the interface. -/
theorem sourceOf_snap (src : Option Address) (i : Iface) : sourceOf src i.snap = sourceFrom src i := by
  cases src <;> rfl

/-- Settles O13: nothing is refused, and the source is `sourceOf_snap`. -/
theorem encodeHdrAnswers : Obligations.EncodeHdrAnswers := by
  intro h type ackreq seq dst src s i hlive hiface hdst htype hdr
  have hrefusal : frameRefusal type false dst = none := by
    rw [frameRefusal_eq_none]
    obtain rfl | rfl | rfl := htype <;> exact ⟨hdst, rfl, by decide, by decide⟩
  have henc : encodeHdr fcLayout type false ackreq dst src seq i.snap = .ok hdr :=
    encodeHdr_eq_ok.2 ⟨hrefusal, by rw [sourceOf_snap]⟩
  change execEncodeHdr h type false ackreq seq dst src s = _
  unfold execEncodeHdr
  rw [if_pos hlive, hiface]
  simp only [henc]
  rfl

/-- Settles O16: an acknowledgement's frame control word passes the checks, and its header is three bytes long. -/
theorem buildAckAnswers : Obligations.BuildAckAnswers := by
  refine fun seq s hrun => ⟨if_pos hrun, ?_⟩
  have hfc : wireHalf [0x02#8, 0x00#8, seq] 0 = 0x0002#16 := wireHalf_ackHeader seq
  have hmd : headerAt fcLayout [0x02#8, 0x00#8, seq] =
      { fc := 0x0002#16, type := 2#3, sec := false, ackreq := false, intrapan := false, dam := 0#2, sam := 0#2, seq := seq
        dst := .none, src := .none, hdrLen := 3, scope := none } := by
    rw [headerAt, hfc]
    rfl
  exact decodeHdr_eq_ok_headerAt.2 ⟨by rw [hfc]; decide, by rw [hmd], hmd.symm⟩

end Sys2Proof.Machine

/-! ## The checksum: what a byte does to the register, and the three commands

A register whose low bits are 0 is shifted out with no polynomial added, so a byte equal to the register's low byte
moves its high byte down. Two such bytes, the checksum low byte first, leave 0. -/

namespace Sys2Proof.Machine

variable {bs : List Byte} {s : State}

/-! ### The register -/

/-- R170: one byte is eight shifts. -/
theorem crcByte_eq_iterate (c : Half) (b : Byte) : crcByte c b = crcShift^[8] (c ^^^ b.setWidth 16) := rfl

theorem crcShift_of_getLsbD_zero {c : Half} (h : c.getLsbD 0 = false) : crcShift c = c >>> 1 :=
  if_neg (ne_true_of_eq_false h)

/-- While the bit shifted out is 0, no polynomial is added. -/
theorem crcShift_iterate_of_low_zero (n : Nat) {c : Half} (h : ∀ i < n, c.getLsbD i = false) :
    crcShift^[n] c = c >>> n := by
  induction n generalizing c with
  | zero => simp
  | succ n ih =>
    have htail : ∀ i < n, (c >>> 1).getLsbD i = false := fun i hlt => by
      rw [BitVec.getLsbD_ushiftRight]
      exact h (1 + i) (by omega)
    rw [Function.iterate_succ_apply, crcShift_of_getLsbD_zero (h 0 n.succ_pos), ih htail,
      ← BitVec.shiftRight_add, Nat.add_comm]

/-- A byte equal to the register's low byte clears it, and eight shifts move the high byte down. -/
theorem crcByte_lo (c : Half) : crcByte c (lo c) = c >>> 8 := by
  have hlow : ∀ i < 8, (c ^^^ (lo c).setWidth 16).getLsbD i = false := fun i hlt => by
    simp [lo, hlt, show i < 16 by omega]
  rw [crcByte_eq_iterate, crcShift_iterate_of_low_zero 8 hlow]
  ext i hlt
  simp [lo]

theorem lo_shiftRight_eight (c : Half) : lo (c >>> 8) = hi c := by
  ext i hlt
  simp [lo, hi]

/-- The register's own two bytes, low byte first, leave 0. -/
theorem crcByte_lo_hi (c : Half) : crcByte (crcByte c (lo c)) (hi c) = 0#16 := by
  rw [crcByte_lo, ← lo_shiftRight_eight, crcByte_lo, ← BitVec.shiftRight_add]
  exact BitVec.ushiftRight_eq_zero (by decide)

/-- R177: a byte sequence with its checksum appended has residue 0. -/
theorem crc16_append_checksum (bs : List Byte) : crc16 (bs ++ [lo (crc16 bs), hi (crc16 bs)]) = 0#16 := by
  rw [crc16, List.foldl_append]
  exact crcByte_lo_hi (crc16 bs)

/-! ### The commands -/

/-- R176: at least two bytes, and residue 0. -/
theorem crcValid_eq_true : crcValid bs = true ↔ 2 ≤ bs.length ∧ crc16 bs = 0#16 := by
  simp [crcValid]

section
variable (hrun : s.running = true)
include hrun

/-- R172, in `Live` and `Draining`. -/
theorem exec_crcCompute : exec (.crcCompute bs) s = .next (s.respond (halfBytes (crc16 bs))) := if_pos hrun

/-- R174, in `Live` and `Draining`. -/
theorem exec_crcAppend : exec (.crcAppend bs) s =
    .next (if 125 < bs.length then s.refuse .frameTooLong
      else s.respond (BitVec.ofNat 8 (bs.length + 2) :: crcAppended bs)) := if_pos hrun

/-- R176, in `Live` and `Draining`. -/
theorem exec_crcVerify :
    exec (.crcVerify bs) s = .next (if crcValid bs then s.respond [] else s.refuse .badChecksum) := if_pos hrun

theorem exec_crcVerify_of_valid (h : 2 ≤ bs.length ∧ crc16 bs = 0#16) :
    exec (.crcVerify bs) s = .next (s.replied [0#8]) := by
  rw [exec_crcVerify hrun, if_pos (crcValid_eq_true.2 h)]
  rfl

end

/-- Settles O18: the residue is `crc16_append_checksum`, and the two bytes appended are enough for CRC_VERIFY. -/
theorem appendedChecksumVerifies : Obligations.AppendedChecksumVerifies := by
  refine fun bs => ⟨crc16_append_checksum bs, fun s hrun _ => ?_⟩
  exact exec_crcVerify_of_valid hrun ⟨by simp, crc16_append_checksum bs⟩

/-- Settles O17: the fold of eight shifts is `crc16`, and each command answers by its equation. -/
theorem crcCommandsAnswer : Obligations.CrcCommandsAnswer := by
  intro bs s hrun shift crc
  have hcrc : crc = crc16 bs := rfl
  rw [hcrc]
  refine ⟨exec_crcCompute hrun, fun hfits => ?_, fun hlong => ?_, exec_crcVerify_of_valid hrun, fun hbad => ?_⟩
  · rw [exec_crcAppend hrun, if_neg (Nat.not_lt.2 hfits)]
    rfl
  · rw [exec_crcAppend hrun, if_pos hlong]
    rfl
  · have hvalid : ¬ crcValid bs = true := by
      rw [crcValid_eq_true]
      rintro ⟨hlen, hzero⟩
      exact hbad.elim (Nat.not_lt.2 hlen) (absurd hzero)
    rw [exec_crcVerify hrun, if_neg hvalid]
    rfl

end Sys2Proof.Machine

/-! ## The classifier: what CLASSIFY answers by destination mode, PAN-id gate and address -/

namespace Sys2Proof.Machine

variable {p : Half} {i : Iface}

/-- R194: a choice by the PAN-id gate, its refusal first: a PAN id neither the interface's nor the broadcast one. -/
theorem ite_panGate {α : Type} (x y : α) :
    (if panGate p i then x else y) = if p ≠ i.pan ∧ p ≠ 0xFFFF#16 then y else x := by
  have hgate : panGate p i = true ↔ ¬ (p ≠ i.pan ∧ p ≠ 0xFFFF#16) := by
    simp only [panGate, panBroadcast, Bool.or_eq_true, beq_iff_eq]
    tauto
  simp only [hgate, ite_not]

theorem code_scopeOf_none (srcMode : Mode) (i : Iface) :
    (scopeOf .none srcMode i).code = if srcMode = .none then 0#8 else 2#8 :=
  apply_ite Scope.code _ _ _

/-- R192: the gate, then the interface's own address before the broadcast address. -/
theorem code_scopeOf_long (p : Half) (a : LongAddr) (srcMode : Mode) (i : Iface) :
    (scopeOf (.long p a) srcMode i).code =
      if p ≠ i.pan ∧ p ≠ 0xFFFF#16 then 2#8
      else if a = i.hwAddr then 0#8 else if a = i.bcastAddr then 1#8 else 2#8 := by
  simp only [scopeOf, ite_panGate, apply_ite Scope.code]
  rfl

/-- R193: the same with the short addresses. -/
theorem code_scopeOf_short (p a : Half) (srcMode : Mode) (i : Iface) :
    (scopeOf (.short p a) srcMode i).code =
      if p ≠ i.pan ∧ p ≠ 0xFFFF#16 then 2#8
      else if a = i.short then 0#8 else if a = 0xFFFF#16 then 1#8 else 2#8 := by
  simp only [scopeOf, ite_panGate, apply_ite Scope.code]
  rfl

/-- R190, R211: in `Live` a valid handle's interface classifies the destination, and nothing else changes. -/
theorem exec_classify {s : State} {h : Handle} (hlive : s.life = .live) (hi : s.ifaceOf h = some i) (dst : Address)
    (srcMode : Mode) :
    exec (.classify h dst srcMode) s = .next (s.replied [0#8, (scopeOf dst srcMode i).code]) := by
  change execClassify h dst srcMode s = _
  rw [execClassify, if_pos hlive, hi]
  rfl

/-- Settles O21: the command answers the code of `scopeOf`, which each destination mode's lemma gives. -/
theorem classifyAnswers : Obligations.ClassifyAnswers := by
  intro h srcMode s i hlive hi
  refine ⟨?_, fun p a => ?_, fun p a => ?_⟩
  · rw [exec_classify hlive hi, code_scopeOf_none]
  · rw [exec_classify hlive hi, code_scopeOf_long]
  · rw [exec_classify hlive hi, code_scopeOf_short]

end Sys2Proof.Machine

/-! ## A frame's handles: the clones made, each copy's scope, the acknowledgement check and its synthesis -/

namespace Sys2Proof.Machine

variable {s : State} {c : RxCtx} {h : HandleCtx} {rest : List HandleCtx} {channel seq : Byte}

/-! ### The RX agent's step while the handles run -/

/-- R250, R266: with handles left, the RX agent's step is a step of the head handle. -/
theorem rxMicro_handling (hrx : s.rx = some c) (hst : c.st = .handling (h :: rest)) :
    rxMicro s = rxHandle c h rest s := by
  simp only [rxMicro, hrx, hst]

section
variable (hstage : h.stage = .clone)
include hstage

/-- R264: the clone that can be made is the handle's copy from now on. -/
theorem rxHandle_clone_made {more : List Bool} (hclones : s.clones = true :: more) :
    rxHandle c h rest s = .next
      (({ s with clones := more } : State).putHandle c { h with copy := h.copy.cloned, stage := .classify } rest) := by
  simp only [rxHandle, hstage, s.drawClone_cons true more hclones, if_true]

/-- R264: the handle whose clone cannot be made is over. -/
theorem rxHandle_clone_failed {more : List Bool} (hclones : s.clones = false :: more) :
    rxHandle c h rest s = .next (({ s with clones := more } : State).dropHandle c h.slot .cloneFailed rest) := by
  simp only [rxHandle, hstage, s.drawClone_cons false more hclones, Bool.false_eq_true, if_false]

end

theorem rxHandle_classify (hstage : h.stage = .classify) : rxHandle c h rest s = rxClassify c h rest s := by
  simp only [rxHandle, hstage]

theorem rxHandle_ackCheck (hstage : h.stage = .ackCheck) : rxHandle c h rest s = .next (rxAckCheck c h rest s) := by
  simp only [rxHandle, hstage]

theorem rxHandle_synthRead (hstage : h.stage = .synthRead) :
    rxHandle c h rest s = .next (s.putHandle c { h with stage := .synthQueue s.curChannel } rest) := by
  simp only [rxHandle, hstage]

theorem rxHandle_synthQueue (hstage : h.stage = .synthQueue channel) :
    rxHandle c h rest s = .next ((s.queueAck channel h.copy.md.seq).putHandle c { h with stage := .dispatch } rest) := by
  simp only [rxHandle, hstage]

/-! ### The end of the fan-out -/

/-- R264, R265: a fan-out that has taken a slot goes on to the handles of the slots taken. -/
theorem rxMicro_fanout_end {md : Md} {taken : List Nat} (hrx : s.rx = some c) (hst : c.st = .fanout md [] taken)
    (htaken : taken ≠ []) : rxMicro s =
      .next (s.setRx (some { c with st := .handling (handlesOf ⟨c.buf, c.len, md⟩ taken), outcomes := [] })) := by
  obtain ⟨n, taken, rfl⟩ := List.exists_cons_of_ne_nil htaken
  simp only [rxMicro, hrx, hst, rxFanout]

/-- R43, R265: over a list of handles of which the last alone is the original's, `RXC.MD` is that handle's. -/
theorem RxCtx.md_handling_append {c : RxCtx} {init : List HandleCtx} (hst : c.st = .handling (init ++ [h]))
    (hinit : ∀ h' ∈ init, h'.original = false) (hlast : h.original = true) : c.md = some h.copy.md := by
  have hnone : init.find? HandleCtx.original = none :=
    List.find?_eq_none.2 fun h' hmem => by simp [hinit h' hmem]
  simp [RxCtx.md, hst, List.find?_append, hnone, hlast]

/-- Settles O37: the end of the fan-out by `handlesOf_append`, and each outcome of a clone's draw. -/
theorem clonesAndOriginal : Obligations.ClonesAndOriginal := by
  refine ⟨fun s c md init last hrx hst => ⟨?_, ?_, ?_⟩, fun s c h rest ok more hrx hst hstage hclones => ?_⟩
  · rw [rxMicro_fanout_end hrx hst (by simp), handlesOf_append]
    rfl
  · simp only [RxCtx.md, hst]
  · refine RxCtx.md_handling_append (h := ⟨last, true, ⟨c.buf, c.len, md⟩, .classify⟩) rfl (fun h' hmem => ?_) rfl
    obtain ⟨n, -, rfl⟩ := List.mem_map.1 hmem
    rfl
  · rw [rxMicro_handling hrx hst]
    cases ok with
    | true => exact rxHandle_clone_made hstage hclones
    | false => exact rxHandle_clone_failed hstage hclones

/-! ### Classification -/

/-- R270, R271: with the fields its slot holds, a handle writes the scope to its own copy's metadata. -/
theorem rxClassify_of_fields {i : Iface} (hi : (s.slots[h.slot]?).bind Slot.fields = some i) :
    rxClassify c h rest s = .next (s.putHandle c { h with
      copy := { h.copy with md := { h.copy.md with scope := some (scopeOf h.copy.md.dst h.copy.md.src.mode i) } }
      stage := .ackCheck } rest) := by
  simp only [rxClassify, hi]

/-- R43: what the head handle becomes decides `RXC.MD` only if it is the original's. -/
theorem RxCtx.md_handling_head {h' : HandleCtx} (hst : c.st = .handling (h :: rest))
    (horiginal : h'.original = h.original) :
    ({ c with st := .handling (h' :: rest) } : RxCtx).md = if h.original = true then some h'.copy.md else c.md := by
  split
  next ho => exact RxCtx.md_original c h' rest (horiginal.trans ho)
  next ho => simp [RxCtx.md, hst, horiginal, ho]

/-- Settles O38: the fields of a bound and of an unlinked slot are read alike. -/
theorem scopePerCopy : Obligations.ScopePerCopy := by
  intro s c h rest g i hrx hst hstage hslot
  have hi : (s.slots[h.slot]?).bind Slot.fields = some i := by
    rcases hslot with hbound | hunlinked
    · rw [hbound]; rfl
    · rw [hunlinked]; rfl
  refine ⟨?_, RxCtx.md_handling_head hst rfl⟩
  rw [rxMicro_handling hrx hst, rxHandle_classify hstage, rxClassify_of_fields hi]
  rfl

/-! ### The acknowledgement check and synthesis -/

/-- R272's condition. -/
theorem ackDue_eq_true {cfg : Config} {md : Md} :
    ackDue cfg md = true ↔ md.scope = some .host ∧ md.ackreq = true ∧ cfg.hwAck = false := by
  simp [ackDue, and_assoc]

/-- R273: the synthesized frame is `02 00 seq`, then its checksum if frames carry one. -/
theorem ackFrame_eq (cfg : Config) (seq : Byte) :
    ackFrame cfg seq = [0x02#8, 0x00#8, seq] ++ checksumBytes cfg [0x02#8, 0x00#8, seq] := by
  unfold ackFrame checksumBytes
  split
  · rfl
  · rfl

/-- R273: without a channel, or with a full queue, synthesis reports and queues nothing. -/
theorem State.queueAck_not_sent (hno : channel = s.cfg.chanNone ∨ s.cfg.wqDepth ≤ s.wq.length) :
    s.queueAck channel seq = s.event .ackNotSent seq.toNat := by
  unfold State.queueAck
  split
  · rfl
  next hchannel => exact if_pos (State.wqFull_eq_true.2 (hno.resolve_left hchannel))

/-- R273: with a channel and room in the queue, the synthesized frame is queued for that channel. -/
theorem State.queueAck_queued (hchannel : channel ≠ s.cfg.chanNone) (hroom : s.wq.length < s.cfg.wqDepth) :
    s.queueAck channel seq = s.pushWork (.xmit ⟨ackFrame s.cfg seq, channel, .ackSynth⟩) := by
  have hfull : ¬ s.wqFull = true := fun hfull => Nat.not_le.2 hroom (State.wqFull_eq_true.1 hfull)
  rw [State.queueAck, if_neg hchannel, if_neg hfull]

/-- Settles O39: the check by its condition, then the two steps of synthesis by what `queueAck` gives. -/
theorem ackCheckAndSynthesis : Obligations.AckCheckAndSynthesis := by
  intro s c h rest hrx hst
  rw [rxMicro_handling hrx hst]
  refine ⟨fun hstage => ?_, fun hstage => ?_, fun channel hstage => ?_⟩
  · rw [rxHandle_ackCheck hstage, rxAckCheck]
    refine ⟨fun hdue => ?_, fun hdue => ?_⟩
    · rw [if_pos (ackDue_eq_true.2 hdue)]
      rfl
    · rw [if_neg (mt ackDue_eq_true.1 hdue)]
      rfl
  · exact rxHandle_synthRead hstage
  · rw [rxHandle_synthQueue hstage]
    refine ⟨fun hno => ?_, fun hchannel hroom => ?_⟩
    · rw [State.queueAck_not_sent hno]
      rfl
    · rw [State.queueAck_queued hchannel hroom, ackFrame_eq]
      rfl

end Sys2Proof.Machine

/-! ## Command descriptors: each reader reads exactly what the encoder writes

A reader succeeds exactly on the bytes its writer gives, followed by whatever it leaves unread. -/

namespace Sys2Proof.Machine

variable {bs rest ops : List Byte} {b slot gen reg : Byte} {i : Instr}

/-! ### The operands -/

theorem modeOfByte_eq_some {m : Mode} : modeOfByte b = some m ↔ b = m.byte := by
  unfold modeOfByte
  split_ifs <;> cases m <;> simp_all [Mode.byte]

theorem flagsOfByte_flagsByte (sec ackreq : Bool) : flagsOfByte (flagsByte sec ackreq) = some (sec, ackreq) := by
  cases sec <;> cases ackreq <;> rfl

/-- R111: the flags byte is bit 0, bit 1 and six zero bits. -/
theorem flagsOfByte_eq_some {sec ackreq : Bool} : flagsOfByte b = some (sec, ackreq) ↔ b = flagsByte sec ackreq := by
  refine ⟨fun h => ?_, fun h => h ▸ flagsOfByte_flagsByte sec ackreq⟩
  unfold flagsOfByte at h
  split at h
  case isFalse => cases h
  case isTrue hzero =>
    cases h
    apply BitVec.eq_of_getLsbD_eq
    intro k hk
    simp only [flagsByte, BitVec.getLsbD_append, BitVec.getLsbD_ofBool, BitVec.getLsbD_zero]
    have hbit := congrArg (fun w => BitVec.getLsbD w (k - 2)) hzero
    simp only [BitVec.getLsbD_extractLsb', BitVec.getLsbD_zero] at hbit
    grind

theorem opcodeOfByte_byte (op : Opcode) : opcodeOfByte op.byte = some op := by cases op <;> rfl

theorem opcodeOfByte_eq_some {op : Opcode} : opcodeOfByte b = some op ↔ b = op.byte := by
  refine ⟨fun h => ?_, fun h => h ▸ opcodeOfByte_byte op⟩
  apply BitVec.eq_of_toNat_eq
  unfold opcodeOfByte at h
  split at h <;> cases h <;> assumption

/-- R110, R114: a must-be-zero field. -/
theorem allZero_iff : allZero bs = true ↔ ∃ n, bs = List.replicate n 0#8 := by
  simp only [allZero, List.all_eq_true, beq_iff_eq, List.eq_replicate_iff]
  exact ⟨fun h => ⟨_, rfl, h⟩, fun ⟨_, _, h⟩ => h⟩

/-- Log 12: behind the operands, zero bytes only. -/
theorem endOf_eq_some {j : Instr} : endOf rest j = some i ↔ j = i ∧ ∃ n, rest = List.replicate n 0#8 := by
  unfold endOf
  split
  next h => simpa using fun _ => allZero_iff.1 h
  next h => simpa using fun _ n hn => h (allZero_iff.2 ⟨n, hn⟩)

theorem takeLong_eq_some {a : LongAddr} : takeLong bs = some (a, rest) ↔ bs = a.bytes ++ rest := by
  unfold takeLong
  split
  case h_1 b0 b1 b2 b3 b4 b5 b6 b7 tail =>
    obtain ⟨a0, a1, a2, a3, a4, a5, a6, a7⟩ := a
    simp [LongAddr.bytes, and_assoc]
  case h_2 hshort =>
    simp only [reduceCtorEq, false_iff]
    exact fun h => hshort _ _ _ _ _ _ _ _ _ h

theorem takeLong_bytes (a : LongAddr) (rest : List Byte) : takeLong (a.bytes ++ rest) = some (a, rest) :=
  takeLong_eq_some.2 rfl

theorem takeAddress_addressOp (a : Address) (rest : List Byte) :
    takeAddress (addressOp a ++ rest) = some (a, rest) := by
  cases a with
  | none => rfl
  | short p x =>
    change some (Address.short (le16 (lo p) (hi p)) (le16 (lo x) (hi x)), rest) = _
    rw [le16_lo_hi, le16_lo_hi]
  | long p x =>
    change some (Address.long (le16 (lo p) (hi p)) x, rest) = _
    rw [le16_lo_hi]

/-- R112: an `AddressOp`. -/
theorem takeAddress_eq_some {a : Address} : takeAddress bs = some (a, rest) ↔ bs = addressOp a ++ rest := by
  refine ⟨fun h => ?_, fun h => h ▸ takeAddress_addressOp a rest⟩
  unfold takeAddress at h
  split at h
  case h_1 => cases h
  case h_2 m tail =>
    split at h
    case h_1 => cases h
    case h_2 hm =>
      cases h
      rw [modeOfByte_eq_some.1 hm]
      rfl
    case h_3 hm =>
      split at h
      case h_1 =>
        cases h
        rw [modeOfByte_eq_some.1 hm]
        simp [addressOp, halfBytes]
      case h_2 => cases h
    case h_4 hm =>
      split at h
      case h_1 =>
        split at h
        case h_1 hlong =>
          cases h
          rw [modeOfByte_eq_some.1 hm, takeLong_eq_some.1 hlong]
          simp [addressOp, halfBytes]
        case h_2 => cases h
      case h_2 => cases h

theorem takeSource_sourceOp (a : Option Address) (rest : List Byte) :
    takeSource (sourceOp a ++ rest) = some (a, rest) := by
  cases a with
  | none => rfl
  | some a => simp [takeSource, sourceOp, takeAddress_addressOp]

/-- R111, log 14: `src_given` is 0 or 1. -/
theorem takeSource_eq_some {a : Option Address} : takeSource bs = some (a, rest) ↔ bs = sourceOp a ++ rest := by
  refine ⟨fun h => ?_, fun h => h ▸ takeSource_sourceOp a rest⟩
  unfold takeSource at h
  split at h
  case h_1 => cases h
  case h_2 g tail =>
    split at h
    case isTrue hg =>
      cases h
      rw [hg]
      rfl
    case isFalse =>
      split at h
      case isTrue hg =>
        split at h
        case h_1 haddr =>
          cases h
          rw [hg, takeAddress_eq_some.1 haddr]
          rfl
        case h_2 => cases h
      case isFalse => cases h

theorem takeCounted_countedOp {payload : List Byte} (h : payload.length ≤ 127) (rest : List Byte) :
    takeCounted (countedOp payload ++ rest) = some (payload, rest) := by
  have hlen : (BitVec.ofNat 8 payload.length).toNat = payload.length := by
    rw [BitVec.toNat_ofNat]
    omega
  simp [takeCounted, countedOp, hlen, h]

/-- R111, R114: a length byte of at most 127 and that many bytes. -/
theorem takeCounted_eq_some {payload : List Byte} :
    takeCounted bs = some (payload, rest) ↔ payload.length ≤ 127 ∧ bs = countedOp payload ++ rest := by
  refine ⟨fun h => ?_, fun ⟨hlen, h⟩ => h ▸ takeCounted_countedOp hlen rest⟩
  unfold takeCounted at h
  split at h
  case h_1 => cases h
  case h_2 n tail =>
    split at h
    case isTrue hn =>
      obtain ⟨hmax, hfits⟩ := hn
      cases h
      have hlen : (tail.take n.toNat).length = n.toNat := List.length_take_of_le hfits
      rw [hlen, countedOp, hlen, BitVec.ofNat_toNat, BitVec.setWidth_eq, List.cons_append, List.take_append_drop]
      exact ⟨hmax, rfl⟩
    case isFalse => cases h

/-- A register value is its 8 bytes, low byte first (R110). -/
theorem le64_valueBytes (v : Value) :
    le64 (v.extractLsb' 0 8) (v.extractLsb' 8 8) (v.extractLsb' 16 8) (v.extractLsb' 24 8) (v.extractLsb' 32 8)
      (v.extractLsb' 40 8) (v.extractLsb' 48 8) (v.extractLsb' 56 8) = v := by
  apply BitVec.eq_of_getLsbD_eq
  intro k hk
  simp only [le64, BitVec.getLsbD_append, BitVec.getLsbD_extractLsb']
  grind

theorem valueBytes_le64 (b0 b1 b2 b3 b4 b5 b6 b7 : Byte) :
    valueBytes (le64 b0 b1 b2 b3 b4 b5 b6 b7) = [b0, b1, b2, b3, b4, b5, b6, b7] := by
  have hbyte (c : Byte) (n : Nat) (h : ∀ k < 8, (le64 b0 b1 b2 b3 b4 b5 b6 b7).getLsbD (n + k) = c.getLsbD k) :
      (le64 b0 b1 b2 b3 b4 b5 b6 b7).extractLsb' n 8 = c := by
    apply BitVec.eq_of_getLsbD_eq
    intro k hk
    rw [BitVec.getLsbD_extractLsb', h k hk]
    simp [hk]
  unfold valueBytes
  congr
  all_goals
    refine hbyte _ _ fun k hk => ?_
    simp only [le64, BitVec.getLsbD_append]
    grind

end Sys2Proof.Machine

/-! ## Command descriptors: the decoder is the encoder's inverse -/

namespace Sys2Proof.Machine

variable {bs rest ops : List Byte} {b slot gen reg : Byte} {i : Instr} {op : Opcode}

/-- The bytes are the command's encoding, and zero bytes behind it (R110, R114, log 12). -/
def DescriptorOf (bs : List Byte) (i : Instr) : Prop :=
  portOf i = .cmd ∧ WellFormed i = true ∧ ∃ n, bs = encode i ++ List.replicate n 0#8

/-- A command is a listed opcode, a handle, a register number, and operands the opcode's decoder accepts. -/
theorem decodeCmd_eq_ok : decodeCmd bs = .ok i ↔
    ∃ op slot gen reg ops, bs = cmdHead op slot gen reg ++ ops ∧ decodeOps op slot gen reg ops = some i := by
  constructor
  · intro h
    unfold decodeCmd at h
    split at h
    case h_1 => cases h
    case h_2 b tail =>
      split at h
      case h_1 => cases h
      case h_2 op hop =>
        split at h
        case h_1 hbody =>
          cases h
          unfold decodeBody at hbody
          split at hbody
          case h_1 slot gen reg ops => exact ⟨op, slot, gen, reg, ops, by rw [opcodeOfByte_eq_some.1 hop]; rfl, hbody⟩
          case h_2 => cases hbody
        case h_2 => cases h
  · rintro ⟨op, slot, gen, reg, ops, rfl, h⟩
    simp [cmdHead, decodeCmd, opcodeOfByte_byte, decodeBody, h]

/-! ### What is decoded is the descriptor of the instruction -/

theorem allZero_one : allZero [b] = true ↔ b = 0#8 := by simp [allZero]

theorem allZero_three : allZero [slot, gen, reg] = true ↔ slot = 0#8 ∧ gen = 0#8 ∧ reg = 0#8 := by simp [allZero]

/-- A command with a counted byte string: the five of them differ in the opcode only. -/
theorem descriptorOf_decodeBytesOp {mk : List Byte → Instr} (hport : ∀ p, portOf (mk p) = .cmd)
    (hwf : ∀ p, WellFormed (mk p) = lengthOk p) (henc : ∀ p, encode (mk p) = cmdHead op 0 0 0 ++ countedOp p)
    (h : (if allZero [slot, gen, reg] then decodeBytesOp ops mk else none) = some i) :
    DescriptorOf (cmdHead op slot gen reg ++ ops) i := by
  obtain ⟨hzero, hops⟩ := Option.ite_none_right_eq_some.1 h
  obtain ⟨rfl, rfl, rfl⟩ := allZero_three.1 hzero
  unfold decodeBytesOp at hops
  split at hops
  case h_1 p rest hp =>
    obtain ⟨hlen, rfl⟩ := takeCounted_eq_some.1 hp
    obtain ⟨rfl, n, rfl⟩ := endOf_eq_some.1 hops
    refine ⟨hport p, by simp [hwf, lengthOk, hlen], n, ?_⟩
    rw [henc, List.append_assoc]
    rfl
  case h_2 => cases hops

theorem descriptorOf_encodeHdr (h : decodeEncodeOps ⟨slot, gen⟩ ops = some i) :
    DescriptorOf (cmdHead .encodeHdr slot gen 0 ++ ops) i := by
  unfold decodeEncodeOps at h
  split at h
  case h_2 => cases h
  case h_1 t f seq tail =>
    split at h
    case h_2 => cases h
    case h_1 sec ackreq dst tail hf hdst =>
      split at h
      case h_2 => cases h
      case h_1 src tail hsrc =>
        obtain rfl := flagsOfByte_eq_some.1 hf
        obtain rfl := takeAddress_eq_some.1 hdst
        obtain rfl := takeSource_eq_some.1 hsrc
        obtain ⟨rfl, n, rfl⟩ := endOf_eq_some.1 h
        exact ⟨rfl, rfl, n, by simp [encode]⟩

theorem descriptorOf_txFrame (h : decodeTxOps ⟨slot, gen⟩ ops = some i) :
    DescriptorOf (cmdHead .txFrame slot gen 0 ++ ops) i := by
  unfold decodeTxOps at h
  split at h
  case h_2 => cases h
  case h_1 t f tail =>
    split at h
    case h_2 => cases h
    case h_1 sec ackreq dst tail hf hdst =>
      split at h
      case h_2 => cases h
      case h_1 src tail hsrc =>
        split at h
        case h_2 => cases h
        case h_1 payload tail hp =>
          obtain rfl := flagsOfByte_eq_some.1 hf
          obtain rfl := takeAddress_eq_some.1 hdst
          obtain rfl := takeSource_eq_some.1 hsrc
          obtain ⟨hlen, rfl⟩ := takeCounted_eq_some.1 hp
          obtain ⟨rfl, n, rfl⟩ := endOf_eq_some.1 h
          exact ⟨rfl, by simpa [WellFormed, lengthOk] using hlen, n, by simp [encode]⟩

theorem descriptorOf_classify (h : decodeClassifyOps ⟨slot, gen⟩ ops = some i) :
    DescriptorOf (cmdHead .classify slot gen 0 ++ ops) i := by
  unfold decodeClassifyOps at h
  split at h
  case h_2 => cases h
  case h_1 dst m tail hdst =>
    split at h
    case h_2 => cases h
    case h_1 mode hm =>
      obtain rfl := takeAddress_eq_some.1 hdst
      obtain rfl := modeOfByte_eq_some.1 hm
      obtain ⟨rfl, n, rfl⟩ := endOf_eq_some.1 h
      exact ⟨rfl, rfl, n, by simp [encode]⟩

/-- What an opcode's decoder accepts is the descriptor of the instruction it answers. -/
theorem descriptorOf_decodeOps (h : decodeOps op slot gen reg ops = some i) :
    DescriptorOf (cmdHead op slot gen reg ++ ops) i := by
  cases op with
  | ifAdd =>
    simp only [decodeOps] at h
    split at h
    case h_2 => cases h
    case h_1 t tail =>
      split at h
      case h_2 => cases h
      case h_1 hw tail hhw =>
        obtain ⟨hzero, h⟩ := Option.ite_none_right_eq_some.1 h
        obtain ⟨rfl, rfl, rfl⟩ := allZero_three.1 hzero
        obtain rfl := takeLong_eq_some.1 hhw
        obtain ⟨rfl, n, rfl⟩ := endOf_eq_some.1 h
        exact ⟨rfl, rfl, n, by simp [encode]⟩
  | ifRemove =>
    obtain ⟨hzero, h⟩ := Option.ite_none_right_eq_some.1 h
    obtain rfl := allZero_one.1 hzero
    obtain ⟨rfl, n, rfl⟩ := endOf_eq_some.1 h
    exact ⟨rfl, rfl, n, rfl⟩
  | devUnregister =>
    obtain ⟨hzero, h⟩ := Option.ite_none_right_eq_some.1 h
    obtain ⟨rfl, rfl, rfl⟩ := allZero_three.1 hzero
    obtain ⟨rfl, n, rfl⟩ := endOf_eq_some.1 h
    exact ⟨rfl, rfl, n, rfl⟩
  | devFree =>
    obtain ⟨hzero, h⟩ := Option.ite_none_right_eq_some.1 h
    obtain ⟨rfl, rfl, rfl⟩ := allZero_three.1 hzero
    obtain ⟨rfl, n, rfl⟩ := endOf_eq_some.1 h
    exact ⟨rfl, rfl, n, rfl⟩
  | cfgRead =>
    obtain ⟨hused, h⟩ := Option.ite_none_right_eq_some.1 h
    obtain ⟨rfl, n, rfl⟩ := endOf_eq_some.1 h
    exact ⟨rfl, hused, n, rfl⟩
  | cfgWrite =>
    simp only [decodeOps] at h
    split at h
    case h_2 => cases h
    case h_1 b0 b1 b2 b3 b4 b5 b6 b7 tail =>
      obtain ⟨hused, h⟩ := Option.ite_none_right_eq_some.1 h
      obtain ⟨rfl, n, rfl⟩ := endOf_eq_some.1 h
      exact ⟨rfl, hused, n, by simp [encode, valueBytes_le64]⟩
  | buildAck =>
    simp only [decodeOps] at h
    split at h
    case h_2 => cases h
    case h_1 seq tail =>
      obtain ⟨hzero, h⟩ := Option.ite_none_right_eq_some.1 h
      obtain ⟨rfl, rfl, rfl⟩ := allZero_three.1 hzero
      obtain ⟨rfl, n, rfl⟩ := endOf_eq_some.1 h
      exact ⟨rfl, rfl, n, rfl⟩
  | decodeHdr => exact descriptorOf_decodeBytesOp (fun _ => rfl) (fun _ => rfl) (fun _ => rfl) h
  | crcCompute => exact descriptorOf_decodeBytesOp (fun _ => rfl) (fun _ => rfl) (fun _ => rfl) h
  | crcAppend => exact descriptorOf_decodeBytesOp (fun _ => rfl) (fun _ => rfl) (fun _ => rfl) h
  | crcVerify => exact descriptorOf_decodeBytesOp (fun _ => rfl) (fun _ => rfl) (fun _ => rfl) h
  | rxFrame => exact descriptorOf_decodeBytesOp (fun _ => rfl) (fun _ => rfl) (fun _ => rfl) h
  | encodeHdr =>
    obtain ⟨hzero, h⟩ := Option.ite_none_right_eq_some.1 h
    exact allZero_one.1 hzero ▸ descriptorOf_encodeHdr h
  | classify =>
    obtain ⟨hzero, h⟩ := Option.ite_none_right_eq_some.1 h
    exact allZero_one.1 hzero ▸ descriptorOf_classify h
  | txFrame =>
    obtain ⟨hzero, h⟩ := Option.ite_none_right_eq_some.1 h
    exact allZero_one.1 hzero ▸ descriptorOf_txFrame h

/-! ### The descriptor of a well-formed command is decoded to it -/

theorem endOf_replicate (n : Nat) (i : Instr) : endOf (List.replicate n 0#8) i = some i :=
  endOf_eq_some.2 ⟨rfl, n, rfl⟩

theorem decodeBytesOp_countedOp {p : List Byte} (h : lengthOk p = true) (n : Nat) (mk : List Byte → Instr) :
    decodeBytesOp (countedOp p ++ List.replicate n 0#8) mk = some (mk p) := by
  have hlen : p.length ≤ 127 := by simpa [lengthOk] using h
  simp only [decodeBytesOp, takeCounted_countedOp hlen, endOf_replicate]

theorem allZero_zero : allZero [(0 : Byte)] = true := rfl

theorem decodeCmd_cmdHead (h : decodeOps op slot gen reg ops = some i) :
    decodeCmd (cmdHead op slot gen reg ++ ops) = .ok i :=
  decodeCmd_eq_ok.2 ⟨op, slot, gen, reg, ops, rfl, h⟩

/-- A command with a counted byte string, and zero bytes behind it. -/
theorem decodeCmd_countedOp {p : List Byte} {mk : List Byte → Instr} (h : lengthOk p = true) (n : Nat)
    (hops : decodeOps op 0 0 0 (countedOp p ++ List.replicate n 0#8) =
      decodeBytesOp (countedOp p ++ List.replicate n 0#8) mk) :
    decodeCmd (cmdHead op 0 0 0 ++ countedOp p ++ List.replicate n 0#8) = .ok (mk p) := by
  rw [List.append_assoc]
  exact decodeCmd_cmdHead (hops.trans (decodeBytesOp_countedOp h n mk))

/-- R110 to R112: the encoding of a well-formed command, with zero bytes behind it, decodes to the command. -/
theorem decodeCmd_encode (hport : portOf i = .cmd) (hwf : WellFormed i = true) (n : Nat) :
    decodeCmd (encode i ++ List.replicate n 0#8) = .ok i := by
  cases i with
  | ifAdd t hw =>
    have hops : decodeOps .ifAdd 0 0 0 (t :: (hw.bytes ++ List.replicate n 0#8)) = some (.ifAdd t hw) := by
      simp only [decodeOps, takeLong_bytes]
      exact endOf_replicate n _
    simpa [encode] using decodeCmd_cmdHead hops
  | ifRemove h =>
    have hops : decodeOps .ifRemove h.slot h.gen 0 (List.replicate n 0#8) = some (.ifRemove h) := endOf_replicate n _
    exact decodeCmd_cmdHead hops
  | devUnregister =>
    have hops : decodeOps .devUnregister 0 0 0 (List.replicate n 0#8) = some .devUnregister := endOf_replicate n _
    exact decodeCmd_cmdHead hops
  | devFree =>
    have hops : decodeOps .devFree 0 0 0 (List.replicate n 0#8) = some .devFree := endOf_replicate n _
    exact decodeCmd_cmdHead hops
  | cfgRead h reg =>
    have hops : decodeOps .cfgRead h.slot h.gen reg (List.replicate n 0#8) = some (.cfgRead h reg) :=
      (if_pos hwf).trans (endOf_replicate n _)
    exact decodeCmd_cmdHead hops
  | cfgWrite h reg v =>
    have hops : decodeOps .cfgWrite h.slot h.gen reg (valueBytes v ++ List.replicate n 0#8) =
        some (.cfgWrite h reg v) := by
      refine (if_pos hwf).trans ?_
      rw [le64_valueBytes]
      exact endOf_replicate n _
    simpa [encode] using decodeCmd_cmdHead hops
  | decodeHdr p => exact decodeCmd_countedOp hwf n rfl
  | crcCompute p => exact decodeCmd_countedOp hwf n rfl
  | crcAppend p => exact decodeCmd_countedOp hwf n rfl
  | crcVerify p => exact decodeCmd_countedOp hwf n rfl
  | rxFrame p => exact decodeCmd_countedOp hwf n rfl
  | buildAck seq =>
    have hops : decodeOps .buildAck 0 0 0 (seq :: List.replicate n 0#8) = some (.buildAck seq) := endOf_replicate n _
    exact decodeCmd_cmdHead hops
  | encodeHdr h t sec ackreq seq dst src =>
    have hops : decodeOps .encodeHdr h.slot h.gen 0
        (t :: flagsByte sec ackreq :: seq :: (addressOp dst ++ (sourceOp src ++ List.replicate n 0#8))) =
          some (.encodeHdr h t sec ackreq seq dst src) := by
      simp only [decodeOps, allZero_zero, if_true, decodeEncodeOps, flagsOfByte_flagsByte,
        takeAddress_addressOp, takeSource_sourceOp, endOf_replicate]
    simpa [encode] using decodeCmd_cmdHead hops
  | classify h dst m =>
    have hops : decodeOps .classify h.slot h.gen 0 (addressOp dst ++ (m.byte :: List.replicate n 0#8)) =
        some (.classify h dst m) := by
      simp only [decodeOps, allZero_zero, if_true, decodeClassifyOps, takeAddress_addressOp,
        modeOfByte_eq_some.2 rfl, endOf_replicate]
    simpa [encode] using decodeCmd_cmdHead hops
  | txFrame h t sec ackreq dst src payload =>
    have hlen : payload.length ≤ 127 := by simpa [WellFormed, lengthOk] using hwf
    have hops : decodeOps .txFrame h.slot h.gen 0
        (t :: flagsByte sec ackreq ::
          (addressOp dst ++ (sourceOp src ++ (countedOp payload ++ List.replicate n 0#8)))) =
          some (.txFrame h t sec ackreq dst src payload) := by
      simp only [decodeOps, allZero_zero, if_true, decodeTxOps, flagsOfByte_flagsByte, takeAddress_addressOp,
        takeSource_sourceOp, takeCounted_countedOp hlen, endOf_replicate]
    simpa [encode] using decodeCmd_cmdHead hops
  | frameBeacon f => cases hport
  | frameData f => cases hport
  | frameAck f => cases hport
  | frameMaccmd f => cases hport
  | frameUnrecognized tt f => cases hport

/-- Settles O2: what is decoded is a descriptor (`descriptorOf_decodeOps`), and a descriptor is decoded. -/
theorem commandDecodingExact : Obligations.CommandDecodingExact := by
  refine fun bs i => ⟨fun h => ?_, fun ⟨hport, hwf, n, hbs⟩ => hbs ▸ decodeCmd_encode hport hwf n⟩
  obtain ⟨op, slot, gen, reg, ops, rfl, hops⟩ := decodeCmd_eq_ok.1 h
  exact descriptorOf_decodeOps hops

end Sys2Proof.Machine

/-! ## Frame control words: the pattern of a word, and the refusal of a command that is none -/

namespace Sys2Proof.Machine

variable {fc : Half} {f : FrameCtl} {type : BitVec 3} {i : Instr}

/-! ### The fields of a word, and the word of its fields (R93) -/

theorem fcType_word (f : FrameCtl) (type : BitVec 3) : fcType (f.word type) = type := by
  apply BitVec.eq_of_getLsbD_eq
  intro k hk
  simp only [fcType, BitVec.getLsbD_extractLsb', FrameCtl.word, BitVec.getLsbD_append]
  grind

theorem frameCtl_word (f : FrameCtl) (type : BitVec 3) : frameCtl (f.word type) = f := by
  have hflags : (f.word type).getLsbD 3 = f.sec ∧ (f.word type).getLsbD 4 = f.ackreq ∧
      (f.word type).getLsbD 5 = f.intrapan := by
    simp only [FrameCtl.word, BitVec.getLsbD_append, BitVec.getLsbD_ofBool]
    grind
  have hfield (off : Nat) (v : BitVec 2) (h : ∀ k < 2, (f.word type).getLsbD (off + k) = v.getLsbD k) :
      (f.word type).extractLsb' off 2 = v := by
    apply BitVec.eq_of_getLsbD_eq
    intro k hk
    rw [BitVec.getLsbD_extractLsb', h k hk, decide_eq_true hk, Bool.true_and]
  obtain ⟨hsec, hackreq, hintrapan⟩ := hflags
  rw [frameCtl, fcSec, fcAckreq, fcIntrapan, fcDam, fcSam, fcLayout, hsec, hackreq, hintrapan,
    hfield 6 f.rsvLow, hfield 8 f.dam, hfield 10 f.rsvMid, hfield 12 f.sam, hfield 14 f.rsvHigh]
  all_goals
    intro k hk
    simp only [FrameCtl.word, BitVec.getLsbD_append, BitVec.getLsbD_ofBool]
    grind

theorem word_frameCtl (fc : Half) : (frameCtl fc).word (fcType fc) = fc := by
  apply BitVec.eq_of_getLsbD_eq
  intro k hk
  simp only [FrameCtl.word, frameCtl, fcType, fcSec, fcAckreq, fcIntrapan, fcDam, fcSam, fcLayout,
    BitVec.getLsbD_append, BitVec.getLsbD_ofBool, BitVec.getLsbD_extractLsb']
  grind

/-- R141, R115: a word passes the checks exactly when its fields are accepted and an Ack's are bare. -/
theorem fcFault_eq_none_iff_accepted :
    fcFault fcLayout fc = none ↔
      (frameCtl fc).accepted = true ∧ (fcType fc = 2#3 → (frameCtl fc).bare = true) := by
  rw [fcFault_eq_none]
  simp only [frameCtl, FrameCtl.accepted, FrameCtl.modesOk, FrameCtl.comboOk, FrameCtl.bare, Bool.and_eq_true,
    Bool.not_eq_true', bne_iff_ne, beq_iff_eq, Bool.and_eq_false_iff, bne_eq_false_iff_eq, beq_eq_false_iff_ne]
  grind

/-! ### The patterns (R94, R275) -/

/-- Above 3 the type's high bit is 1. -/
theorem one_append_low_bits (h0 : type ≠ 0#3) (h1 : type ≠ 1#3) (h2 : type ≠ 2#3) (h3 : type ≠ 3#3) :
    1#1 ++ type.extractLsb' 0 2 = type := by
  revert type
  decide

theorem encode_frameInstr (type : BitVec 3) (f : FrameCtl) : encode (frameInstr type f) = halfBytes (f.word type) := by
  unfold frameInstr
  split_ifs with h0 h1 h2 h3
  · rw [h0]; rfl
  · rw [h1]; rfl
  · rw [h2]; rfl
  · rw [h3]; rfl
  · rw [encode, one_append_low_bits h0 h1 h2 h3]

theorem portOf_frameInstr (type : BitVec 3) (f : FrameCtl) : portOf (frameInstr type f) = .phyRx := by
  unfold frameInstr
  split_ifs <;> rfl

theorem wellFormed_frameInstr :
    WellFormed (frameInstr type f) = true ↔ f.accepted = true ∧ (type = 2#3 → f.bare = true) := by
  unfold frameInstr
  split_ifs <;> simp_all [WellFormed]

theorem frameInstr_unrecognized (tt : BitVec 2) (f : FrameCtl) :
    frameInstr (1#1 ++ tt) f = .frameUnrecognized tt f := by
  have htype : ∀ tt : BitVec 2, 1#1 ++ tt ≠ 0#3 ∧ 1#1 ++ tt ≠ 1#3 ∧ 1#1 ++ tt ≠ 2#3 ∧ 1#1 ++ tt ≠ 3#3 ∧
      (1#1 ++ tt).extractLsb' 0 2 = tt := by decide
  obtain ⟨h0, h1, h2, h3, hlow⟩ := htype tt
  rw [frameInstr, if_neg h0, if_neg h1, if_neg h2, if_neg h3, hlow]

/-- The patterns are the instructions of port PHY_RX. -/
theorem exists_frameInstr (h : portOf i = .phyRx) : ∃ type f, i = frameInstr type f := by
  cases i with
  | frameBeacon f => exact ⟨0#3, f, rfl⟩
  | frameData f => exact ⟨1#3, f, rfl⟩
  | frameAck f => exact ⟨2#3, f, rfl⟩
  | frameMaccmd f => exact ⟨3#3, f, rfl⟩
  | frameUnrecognized tt f => exact ⟨_, f, (frameInstr_unrecognized tt f).symm⟩
  | _ => cases h

theorem decodeFc_eq_ok : decodeFc fc = .ok i ↔ fcFault fcLayout fc = none ∧ i = frameInstr (fcType fc) (frameCtl fc) := by
  unfold decodeFc
  split
  next e he => simp [he]
  next he => simp [he, eq_comm]

theorem halfBytes_inj {v w : Half} (h : halfBytes v = halfBytes w) : v = w := by
  obtain ⟨hlo, hhi⟩ : lo v = lo w ∧ hi v = hi w := by simpa [halfBytes] using h
  rw [← le16_lo_hi v, hlo, hhi, le16_lo_hi]

/-- Settles O3: a pattern's word has the pattern's fields, and the word's checks are the pattern's well-formedness. -/
theorem frameWordDecodingExact : Obligations.FrameWordDecodingExact := by
  intro fc i
  rw [decodeFc_eq_ok, fcFault_eq_none_iff_accepted]
  constructor
  · rintro ⟨haccepted, rfl⟩
    exact ⟨portOf_frameInstr _ _, wellFormed_frameInstr.2 haccepted, by rw [encode_frameInstr, word_frameCtl]⟩
  · rintro ⟨hport, hwf, henc⟩
    obtain ⟨type, f, rfl⟩ := exists_frameInstr hport
    rw [encode_frameInstr] at henc
    obtain rfl := halfBytes_inj henc
    rw [fcType_word, frameCtl_word]
    exact ⟨wellFormed_frameInstr.1 hwf, rfl⟩

/-- Settles O1: a command by `decodeCmd_encode`, a pattern by its frame control word. -/
theorem decodeEncodeRoundTrip : Obligations.DecodeEncodeRoundTrip := by
  intro i hwf
  cases hport : portOf i with
  | cmd => simpa [decode] using decodeCmd_encode hport hwf 0
  | phyRx =>
    obtain ⟨type, f, rfl⟩ := exists_frameInstr hport
    rw [encode_frameInstr]
    change decodeFc (le16 (lo (f.word type)) (hi (f.word type))) = _
    rw [le16_lo_hi]
    exact (frameWordDecodingExact _ _).2 ⟨hport, hwf, encode_frameInstr _ _⟩

/-- Settles O4: each word is the encoding of a well-formed instruction. -/
theorem specWordsDecode : Obligations.SpecWordsDecode :=
  ⟨rfl, rfl, rfl, rfl, rfl, rfl, rfl, rfl, rfl, rfl, rfl⟩

/-! ### Commands that are none (R114) -/

/-- R111: the listed opcodes. -/
theorem listed_iff {op : Byte} :
    op ∈ [0x01#8, 0x02#8, 0x03#8, 0x04#8, 0x05#8, 0x06#8, 0x10#8, 0x11#8, 0x12#8, 0x18#8, 0x19#8, 0x1A#8, 0x20#8, 0x30#8,
      0x38#8] ↔ ∃ o, opcodeOfByte op = some o := by
  simp only [opcodeOfByte_eq_some]
  constructor
  · simp only [List.mem_cons, List.not_mem_nil, or_false]
    rintro (rfl | rfl | rfl | rfl | rfl | rfl | rfl | rfl | rfl | rfl | rfl | rfl | rfl | rfl | rfl)
    exacts [⟨.ifAdd, rfl⟩, ⟨.ifRemove, rfl⟩, ⟨.devUnregister, rfl⟩, ⟨.devFree, rfl⟩, ⟨.cfgRead, rfl⟩, ⟨.cfgWrite, rfl⟩,
      ⟨.decodeHdr, rfl⟩, ⟨.encodeHdr, rfl⟩, ⟨.buildAck, rfl⟩, ⟨.crcCompute, rfl⟩, ⟨.crcAppend, rfl⟩, ⟨.crcVerify, rfl⟩,
      ⟨.classify, rfl⟩, ⟨.rxFrame, rfl⟩, ⟨.txFrame, rfl⟩]
  · rintro ⟨o, rfl⟩
    cases o <;> decide

theorem decodeCmd_of_unlisted {op : Byte} (h : opcodeOfByte op = none) (body : List Byte) :
    decodeCmd (op :: body) = .error .illegalCommand := by
  simp only [decodeCmd, h]

/-- R114, R343: with a listed opcode, a descriptor is decoded or malformed. -/
theorem decodeCmd_of_listed {op : Byte} {o : Opcode} (h : opcodeOfByte op = some o) (body : List Byte) :
    (∃ i, decodeCmd (op :: body) = .ok i) ∨ decodeCmd (op :: body) = .error .badOperand := by
  simp only [decodeCmd, h]
  split
  next i _ => exact .inl ⟨i, rfl⟩
  next => exact .inr rfl

/-- R114: a command that does not decode is answered with its refusal, and nothing else changes. -/
theorem perform_cmd_error {s : State} {bs : List Byte} {queue : List (List Byte)} {e : DecodeError}
    (hcmd : s.cmdIn = bs :: queue) (he : decodeCmd bs = .error e) :
    perform .cmd s =
      .next (State.replied { s with cmdIn := queue, ticket := s.ticket + 1 } (Status.ofDecode e).bytes) := by
  have hdecode : decode .cmd bs = .error e := he
  simp only [perform, takeCommand, hcmd, runCommand, hdecode]
  rfl

/-- Settles O5: the decoder's error by the opcode; with a listed one, the decoder accepts descriptors only. -/
theorem undecodableCommandRefused : Obligations.UndecodableCommandRefused := by
  intro s op body queue hcmd listed taken
  refine ⟨fun hun => ?_, fun hlisted hnone => ?_⟩
  · have hop : opcodeOfByte op = none := by
      rw [Option.eq_none_iff_forall_not_mem]
      exact fun o ho => hun (listed_iff.2 ⟨o, ho⟩)
    exact perform_cmd_error hcmd (decodeCmd_of_unlisted hop body)
  · obtain ⟨o, ho⟩ := listed_iff.1 hlisted
    obtain ⟨i, hi⟩ | hbad := decodeCmd_of_listed ho body
    · obtain ⟨hport, hwf, n, hbs⟩ := (commandDecodingExact _ _).1 hi
      exact absurd hbs (hnone i n hport hwf)
    · exact perform_cmd_error hcmd hbad

end Sys2Proof.Machine

/-! ## What each command answers, case by case

One equation per outcome: a refusal, an answer, or the first step after which the command's agent goes on. -/

namespace Sys2Proof.Machine

variable {s : State} {h : Handle} {i : Iface} {type reg seq : Byte} {hw : LongAddr} {r : Reg} {v : Value} {n : Nat}
  {bytes payload : List Byte} {sec ackreq : Bool} {dst : Address} {src : Option Address} {srcMode : Mode} {e : Status}

/-! ### Unit operations -/

/-- R211: in `Released` and `Fatal` a unit operation is refused. -/
theorem unitOp_gone (hrun : s.running = false) (answer : State → State) :
    s.unitOp answer = .next (s.refuse .deviceGone) := if_neg (ne_true_of_eq_false hrun)

theorem exec_decodeHdr (hrun : s.running = true) :
    exec (.decodeHdr bytes) s = .next (match decodeHdr fcLayout bytes bytes.length with
      | .ok md => s.respond md.resultBytes
      | .error (e, _) => s.refuse (Status.ofHdr e)) := if_pos hrun

/-! ### IF_ADD -/

theorem exec_ifAdd_badOperand (htype : 1 < type.toNat) :
    exec (.ifAdd type hw) s = .next (s.refuse .badOperand) := if_pos htype

theorem exec_ifAdd_gone (htype : type.toNat ≤ 1) (hlive : s.life ≠ .live) :
    exec (.ifAdd type hw) s = .next (s.refuse .deviceGone) :=
  (if_neg (Nat.not_lt.2 htype)).trans (if_neg hlive)

theorem exec_ifAdd_live (htype : type.toNat ≤ 1) (hlive : s.life = .live) :
    exec (.ifAdd type hw) s = match s.freeSlot with
      | none => .next (s.refuse .tableFull)
      | some n => .next ((s.create n (ifTypeOf type) hw).respond [BitVec.ofNat 8 n, s.genOf n]) :=
  (if_neg (Nat.not_lt.2 htype)).trans (if_pos hlive)

theorem exec_ifAdd_tableFull (htype : type.toNat ≤ 1) (hlive : s.life = .live) (hfree : s.freeSlot = none) :
    exec (.ifAdd type hw) s = .next (s.refuse .tableFull) := by
  rw [exec_ifAdd_live htype hlive, hfree]

theorem exec_ifAdd_created (htype : type.toNat ≤ 1) (hlive : s.life = .live) (hfree : s.freeSlot = some n) :
    exec (.ifAdd type hw) s = .next ((s.create n (ifTypeOf type) hw).respond [BitVec.ofNat 8 n, s.genOf n]) := by
  rw [exec_ifAdd_live htype hlive, hfree]

/-! ### IF_REMOVE, DEV_UNREGISTER, DEV_FREE -/

theorem exec_ifRemove_gone (hlive : s.life ≠ .live) : exec (.ifRemove h) s = .next (s.refuse .deviceGone) := if_neg hlive

theorem exec_ifRemove_badHandle (hlive : s.life = .live) (hi : s.ifaceOf h = none) :
    exec (.ifRemove h) s = .next (s.refuse .badHandle) :=
  (if_pos hlive).trans (if_neg (by simp [State.handleOk, hi]))

theorem exec_ifRemove_unlinks (hlive : s.life = .live) (hi : s.ifaceOf h = some i) :
    exec (.ifRemove h) s =
      .next (advanceHost s.burst ((s.unlink h.slot.toNat).setHost (.removing s.ticket h.slot.toNat))) :=
  (if_pos hlive).trans (if_pos (State.handleOk_iff.2 ⟨i, hi⟩))

theorem exec_devUnregister_gone (hlive : s.life ≠ .live) : exec .devUnregister s = .next (s.refuse .deviceGone) :=
  if_neg hlive

theorem exec_devUnregister_drains (hlive : s.life = .live) : exec .devUnregister s =
    .next (advanceHost s.burst (({ s with life := .draining } : State).setHost (.unregistering s.ticket))) :=
  if_pos hlive

theorem exec_devFree_gone (hlive : s.life ≠ .live) : exec .devFree s = .next (s.refuse .deviceGone) := if_neg hlive

theorem exec_devFree_drains (hlive : s.life = .live) (hvacant : s.boundSlots = []) : exec .devFree s =
    .next (advanceHost s.burst (({ s with life := .draining } : State).setHost (.draining s.ticket))) :=
  (if_pos hlive).trans (if_pos hvacant)

theorem exec_devFree_fatal (hlive : s.life = .live) (hbound : s.boundSlots ≠ []) : exec .devFree s =
    .next ((({ s with life := .fatal, fatalCause := .nonEmptyFree } : State).event .fatalNonEmptyFree
      s.boundSlots.length).refuse .fatalNonEmptyFree) :=
  (if_pos hlive).trans (if_neg hbound)

/-! ### CFG_READ and CFG_WRITE -/

theorem exec_cfgRead_badRegister (hreg : regOfByte reg = none) :
    exec (.cfgRead h reg) s = .next (s.refuse .badRegister) := by
  change execCfgRead h reg s = _
  simp only [execCfgRead, hreg]

theorem exec_cfgRead_device (hreg : regOfByte reg = some r) (hv : s.devReg r = some v) :
    exec (.cfgRead h reg) s = .next (s.respond (valueBytes v)) := by
  change execCfgRead h reg s = _
  simp only [execCfgRead, hreg, hv]

section
variable (hreg : regOfByte reg = some r) (hdev : s.devReg r = none)
include hreg hdev

theorem exec_cfgRead_gone (hrun : s.running = false) : exec (.cfgRead h reg) s = .next (s.refuse .deviceGone) := by
  change execCfgRead h reg s = _
  simp only [execCfgRead, hreg, hdev, hrun, Bool.false_eq_true, if_false]

theorem exec_cfgRead_badHandle (hrun : s.running = true) (hi : s.ifaceOf h = none) :
    exec (.cfgRead h reg) s = .next (s.refuse .badHandle) := by
  change execCfgRead h reg s = _
  simp only [execCfgRead, hreg, hdev, hrun, hi, if_true]

theorem exec_cfgRead_iface (hrun : s.running = true) (hi : s.ifaceOf h = some i) (hv : i.reg h.gen r = some v) :
    exec (.cfgRead h reg) s = .next (s.respond (valueBytes v)) := by
  change execCfgRead h reg s = _
  simp only [execCfgRead, hreg, hdev, hrun, hi, hv, if_true]

end

theorem exec_cfgWrite_badRegister (hreg : regOfByte reg = none) :
    exec (.cfgWrite h reg v) s = .next (s.refuse .badRegister) := by
  change execCfgWrite h reg v s = _
  simp only [execCfgWrite, hreg]

section
variable (hreg : regOfByte reg = some r)
include hreg

theorem exec_cfgWrite_readOnly (hrw : r.writable = false) : exec (.cfgWrite h reg v) s = .next (s.refuse .readOnly) := by
  change execCfgWrite h reg v s = _
  simp only [execCfgWrite, hreg, hrw, Bool.false_eq_true, if_false]

variable (hrw : r.writable = true)
include hrw

theorem exec_cfgWrite_gone (hlive : s.life ≠ .live) : exec (.cfgWrite h reg v) s = .next (s.refuse .deviceGone) := by
  change execCfgWrite h reg v s = _
  simp only [execCfgWrite, hreg, hrw, if_true, if_neg hlive]

variable (hlive : s.life = .live)
include hlive

theorem exec_cfgWrite_badHandle (hi : s.ifaceOf h = none) :
    exec (.cfgWrite h reg v) s = .next (s.refuse .badHandle) := by
  change execCfgWrite h reg v s = _
  simp only [execCfgWrite, hreg, hrw, if_true, if_pos hlive, hi]

variable (hi : s.ifaceOf h = some i)
include hi

theorem exec_cfgWrite_queueFull (hfull : (s.needsFilter r && !s.filterQueued h && s.wqFull) = true) :
    exec (.cfgWrite h reg v) s = .next (s.refuse .queueFull) := by
  change execCfgWrite h reg v s = _
  simp only [execCfgWrite, hreg, hrw, if_true, if_pos hlive, hi, hfull]

theorem exec_cfgWrite_writes (hroom : ¬ (s.needsFilter r && !s.filterQueued h && s.wqFull) = true) :
    exec (.cfgWrite h reg v) s = .next ((s.writeReg h i r v).respond []) := by
  change execCfgWrite h reg v s = _
  simp only [execCfgWrite, hreg, hrw, if_true, if_pos hlive, hi, if_neg hroom]

end

/-! ### ENCODE_HDR and CLASSIFY -/

theorem exec_encodeHdr_gone (hlive : s.life ≠ .live) :
    exec (.encodeHdr h type sec ackreq seq dst src) s = .next (s.refuse .deviceGone) := if_neg hlive

theorem exec_encodeHdr_badHandle (hlive : s.life = .live) (hi : s.ifaceOf h = none) :
    exec (.encodeHdr h type sec ackreq seq dst src) s = .next (s.refuse .badHandle) := by
  change execEncodeHdr h type sec ackreq seq dst src s = _
  simp only [execEncodeHdr, if_pos hlive, hi]

theorem exec_encodeHdr_refused (hlive : s.life = .live) (hi : s.ifaceOf h = some i)
    (he : frameRefusal type sec dst = some e) :
    exec (.encodeHdr h type sec ackreq seq dst src) s = .next (s.refuse e) := by
  change execEncodeHdr h type sec ackreq seq dst src s = _
  simp only [execEncodeHdr, if_pos hlive, hi, encodeHdr, he]

theorem exec_encodeHdr_header (hlive : s.life = .live) (hi : s.ifaceOf h = some i)
    (he : frameRefusal type sec dst = none) :
    ∃ hdr, exec (.encodeHdr h type sec ackreq seq dst src) s = .next (s.respond (BitVec.ofNat 8 hdr.length :: hdr)) := by
  change ∃ hdr, execEncodeHdr h type sec ackreq seq dst src s = _
  simp only [execEncodeHdr, if_pos hlive, hi, encodeHdr, he]
  exact ⟨_, rfl⟩

theorem exec_classify_gone (hlive : s.life ≠ .live) :
    exec (.classify h dst srcMode) s = .next (s.refuse .deviceGone) := if_neg hlive

theorem exec_classify_badHandle (hlive : s.life = .live) (hi : s.ifaceOf h = none) :
    exec (.classify h dst srcMode) s = .next (s.refuse .badHandle) := by
  change execClassify h dst srcMode s = _
  simp only [execClassify, if_pos hlive, hi]

/-! ### RX_FRAME and TX_FRAME -/

theorem exec_rxFrame_gone (hrun : s.running = false) : exec (.rxFrame bytes) s = .next (s.refuse .deviceGone) :=
  if_neg (ne_true_of_eq_false hrun)

theorem exec_rxFrame_starts (hrun : s.running = true) :
    exec (.rxFrame bytes) s = advanceRx s.burst (s.startRx (.command s.ticket) bytes) := if_pos hrun

theorem exec_txFrame_refused (he : frameRefusal type sec dst = some e) :
    exec (.txFrame h type sec ackreq dst src payload) s = .next (s.refuse e) := by
  change execTxFrame h type sec ackreq dst src payload s = _
  simp only [execTxFrame, he]

section
variable (he : frameRefusal type sec dst = none)
include he

theorem exec_txFrame_gone (hlive : s.life ≠ .live) :
    exec (.txFrame h type sec ackreq dst src payload) s = .next (s.refuse .deviceGone) := by
  change execTxFrame h type sec ackreq dst src payload s = _
  simp only [execTxFrame, he, if_neg hlive]

variable (hlive : s.life = .live)
include hlive

theorem exec_txFrame_badHandle (hi : s.ifaceOf h = none) :
    exec (.txFrame h type sec ackreq dst src payload) s = .next (s.refuse .badHandle) := by
  change execTxFrame h type sec ackreq dst src payload s = _
  simp only [execTxFrame, he, if_pos hlive, hi]

variable (hi : s.ifaceOf h = some i)
include hi

theorem exec_txFrame_channelUnset (hchannel : i.channel = s.cfg.chanNone) :
    exec (.txFrame h type sec ackreq dst src payload) s = .next (s.refuse .channelUnset) := by
  change execTxFrame h type sec ackreq dst src payload s = _
  simp only [execTxFrame, he, if_pos hlive, hi, if_pos hchannel]

variable (hchannel : i.channel ≠ s.cfg.chanNone)
include hchannel

theorem exec_txFrame_tooLong (hlong : maxFrame < txLength s.cfg dst (sourceOf src i.snap) payload) :
    exec (.txFrame h type sec ackreq dst src payload) s = .next (s.refuse .frameTooLong) := by
  change execTxFrame h type sec ackreq dst src payload s = _
  simp only [execTxFrame, he, if_pos hlive, hi, if_neg hchannel, if_pos hlong]

theorem exec_txFrame_opens (hfits : ¬ maxFrame < txLength s.cfg dst (sourceOf src i.snap) payload) :
    exec (.txFrame h type sec ackreq dst src payload) s = .next (advanceTx s.ticket s.burst
      (s.setTx (s.tx ++ [TxCtx.opened s.ticket h type ackreq dst src payload i.snap]))) := by
  change execTxFrame h type sec ackreq dst src payload s = _
  simp only [execTxFrame, he, if_pos hlive, hi, if_neg hchannel, if_neg hfits]

end

/-! ### Commands that answer and change nothing else -/

/-- The instruction answers, and that is all. -/
def Replies (i : Instr) (s : State) : Prop := ∃ bytes, exec i s = .next (s.replied bytes)

theorem replies_unitOp {i : Instr} {answer : State → State} (hexec : exec i s = s.unitOp answer)
    (hanswer : ∃ bytes, answer s = s.replied bytes) : Replies i s := by
  obtain ⟨reply, hreply⟩ := hanswer
  cases hrun : s.running with
  | true => exact ⟨reply, hexec.trans ((if_pos hrun).trans (congrArg _ hreply))⟩
  | false => exact ⟨_, hexec.trans (unitOp_gone hrun answer)⟩

theorem replies_decodeHdr (bytes : List Byte) (s : State) : Replies (.decodeHdr bytes) s := by
  have hexec : exec (.decodeHdr bytes) s = execDecodeHdr bytes s := rfl
  unfold execDecodeHdr at hexec
  refine replies_unitOp hexec ?_
  split <;> exact ⟨_, rfl⟩

theorem replies_buildAck (seq : Byte) (s : State) : Replies (.buildAck seq) s :=
  replies_unitOp (answer := fun s => s.respond (ackHeader seq)) rfl ⟨_, rfl⟩

theorem replies_crcCompute (bytes : List Byte) (s : State) : Replies (.crcCompute bytes) s :=
  replies_unitOp (answer := fun s => s.respond (halfBytes (crc16 bytes))) rfl ⟨_, rfl⟩

theorem replies_crcAppend (bytes : List Byte) (s : State) : Replies (.crcAppend bytes) s := by
  have hexec : exec (.crcAppend bytes) s = execCrcAppend bytes s := rfl
  unfold execCrcAppend at hexec
  refine replies_unitOp hexec ?_
  split <;> exact ⟨_, rfl⟩

theorem replies_crcVerify (bytes : List Byte) (s : State) : Replies (.crcVerify bytes) s := by
  have hexec : exec (.crcVerify bytes) s = execCrcVerify bytes s := rfl
  unfold execCrcVerify at hexec
  refine replies_unitOp hexec ?_
  split <;> exact ⟨_, rfl⟩

/-- CFG_WRITE is refused, or all its checks pass. -/
theorem replies_or_cfgWrite (h : Handle) (reg : Byte) (v : Value) (s : State) : Replies (.cfgWrite h reg v) s ∨
    ∃ r, regOfByte reg = some r ∧ r.writable = true ∧ ∃ i, s.life = .live ∧ s.ifaceOf h = some i ∧
      ¬ (s.needsFilter r && !s.filterQueued h && s.wqFull) = true := by
  cases hreg : regOfByte reg with
  | none => exact .inl ⟨_, exec_cfgWrite_badRegister hreg⟩
  | some r =>
    cases hrw : r.writable with
    | false => exact .inl ⟨_, exec_cfgWrite_readOnly hreg hrw⟩
    | true =>
      by_cases hlive : s.life = .live
      case neg => exact .inl ⟨_, exec_cfgWrite_gone hreg hrw hlive⟩
      cases hi : s.ifaceOf h with
      | none => exact .inl ⟨_, exec_cfgWrite_badHandle hreg hrw hlive hi⟩
      | some i =>
        by_cases hfull : (s.needsFilter r && !s.filterQueued h && s.wqFull) = true
        · exact .inl ⟨_, exec_cfgWrite_queueFull hreg hrw hlive hi hfull⟩
        · exact .inr ⟨r, rfl, hrw, i, hlive, rfl, hfull⟩

/-- TX_FRAME is refused, or all its checks pass. -/
theorem replies_or_txFrame (h : Handle) (type : Byte) (sec ackreq : Bool) (dst : Address) (src : Option Address)
    (payload : List Byte) (s : State) : Replies (.txFrame h type sec ackreq dst src payload) s ∨
    frameRefusal type sec dst = none ∧ s.life = .live ∧ ∃ i, s.ifaceOf h = some i ∧ i.channel ≠ s.cfg.chanNone ∧
      ¬ maxFrame < txLength s.cfg dst (sourceOf src i.snap) payload := by
  cases he : frameRefusal type sec dst with
  | some e => exact .inl ⟨_, exec_txFrame_refused he⟩
  | none =>
    by_cases hlive : s.life = .live
    case neg => exact .inl ⟨_, exec_txFrame_gone he hlive⟩
    cases hi : s.ifaceOf h with
    | none => exact .inl ⟨_, exec_txFrame_badHandle he hlive hi⟩
    | some i =>
      by_cases hchannel : i.channel = s.cfg.chanNone
      · exact .inl ⟨_, exec_txFrame_channelUnset he hlive hi hchannel⟩
      by_cases hlong : maxFrame < txLength s.cfg dst (sourceOf src i.snap) payload
      · exact .inl ⟨_, exec_txFrame_tooLong he hlive hi hchannel hlong⟩
      · exact .inr ⟨rfl, hlive, i, rfl, hchannel, hlong⟩

/-- A register is the device's or an interface's (R46). -/
theorem reg_of_devReg_eq_none (hdev : s.devReg r = none) (i : Iface) (gen : Byte) : ∃ v, i.reg gen r = some v := by
  cases r with
  | ifCtrl | ifPan | ifShort | ifChannel | ifHwaddr | ifBcast | ifDsn | ifBsn => exact ⟨_, rfl⟩
  | _ => cases hdev

theorem replies_cfgRead (h : Handle) (reg : Byte) (s : State) : Replies (.cfgRead h reg) s := by
  cases hreg : regOfByte reg with
  | none => exact ⟨_, exec_cfgRead_badRegister hreg⟩
  | some r =>
    cases hdev : s.devReg r with
    | some v => exact ⟨_, exec_cfgRead_device hreg hdev⟩
    | none =>
      cases hrun : s.running with
      | false => exact ⟨_, exec_cfgRead_gone hreg hdev hrun⟩
      | true =>
        cases hi : s.ifaceOf h with
        | none => exact ⟨_, exec_cfgRead_badHandle hreg hdev hrun hi⟩
        | some i =>
          obtain ⟨v, hv⟩ := reg_of_devReg_eq_none hdev i h.gen
          exact ⟨_, exec_cfgRead_iface hreg hdev hrun hi hv⟩

theorem replies_encodeHdr (h : Handle) (type : Byte) (sec ackreq : Bool) (seq : Byte) (dst : Address)
    (src : Option Address) (s : State) : Replies (.encodeHdr h type sec ackreq seq dst src) s := by
  by_cases hlive : s.life = .live
  case neg => exact ⟨_, exec_encodeHdr_gone hlive⟩
  cases hi : s.ifaceOf h with
  | none => exact ⟨_, exec_encodeHdr_badHandle hlive hi⟩
  | some i =>
    cases he : frameRefusal type sec dst with
    | some e => exact ⟨_, exec_encodeHdr_refused hlive hi he⟩
    | none =>
      obtain ⟨hdr, hexec⟩ := exec_encodeHdr_header hlive hi he
      exact ⟨_, hexec⟩

theorem replies_classify (h : Handle) (dst : Address) (srcMode : Mode) (s : State) : Replies (.classify h dst srcMode) s := by
  by_cases hlive : s.life = .live
  case neg => exact ⟨_, exec_classify_gone hlive⟩
  cases hi : s.ifaceOf h with
  | none => exact ⟨_, exec_classify_badHandle hlive hi⟩
  | some i => exact ⟨_, exec_classify hlive hi dst srcMode⟩

end Sys2Proof.Machine

/-! ## What a step can do

A step is quiet (a refusal, an input taken, nothing), a reset, or a run of one agent's atomic steps, which a command or a
frame just taken may begin. Every invariant is proved from this list, `step_cases`. -/

namespace Sys2Proof.Machine

variable {s t u : State} {m : Move} {i : Instr}

/-! ### Agents, their atomic steps and their runs -/

/-- The agents of R7; a TX agent by the ticket of its call. -/
inductive Agent where
  | host
  | rx
  | tx (k : Nat)
  | work

/-- The agent a command is addressed to (R7, R111). -/
def Agent.addressee : Agent → Option Addressee
  | .host => some .host
  | .rx => some .rx
  | .tx _ => some .tx
  | .work => none

/-- The copy `h` has been dispatched as a frame of the type (R275). -/
def State.dispatched (s : State) (type : BitVec 3) (c : RxCtx) (h : HandleCtx) (rest : List HandleCtx) : State :=
  (dispatchOn type h s).2.putHandle c { h with stage := (dispatchOn type h s).1 } rest

/-- One atomic step of an agent. -/
inductive Micro : Agent → State → State → Prop
  | host (s : State) (j : Nat) : Micro .host s (hostMicro j s)
  | tx (s : State) (k : Nat) : Micro (.tx k) s (txMicro k s)
  | work (s : State) (j : Nat) : Micro .work s (workMicro j s)
  | rx {s t : State} (h : rxMicro s = .next t) : Micro .rx s t
  | dispatch {s : State} {c : RxCtx} {h : HandleCtx} {rest : List HandleCtx} (type : BitVec 3)
      (hd : s.atDispatch = some (c, h, rest)) : Micro .rx s (s.dispatched type c h rest)

/-- Any number of atomic steps of an agent. -/
abbrev Agent.Run (a : Agent) : State → State → Prop := Relation.ReflTransGen (Micro a)

/-- The further atomic steps an agent takes in its burst. -/
def Agent.advance (a : Agent) (s : State) : Host.Outcome State Fault Refusal :=
  match a with
  | .host => .next (advanceHost s.burst s)
  | .rx => advanceRx s.burst s
  | .tx k => .next (advanceTx k s.burst s)
  | .work => .next (advanceWork s.burst s)

theorem run_advanceHost (n : Nat) (s : State) : Agent.host.Run s (advanceHost n s) := by
  induction n generalizing s with
  | zero => exact .refl
  | succ n ih => exact .head (.host s 0) (ih _)

theorem run_advanceTx (k n : Nat) (s : State) : (Agent.tx k).Run s (advanceTx k n s) := by
  induction n generalizing s with
  | zero => exact .refl
  | succ n ih => exact .head (.tx s k) (ih _)

theorem run_advanceWork (n : Nat) (s : State) : Agent.work.Run s (advanceWork n s) := by
  induction n generalizing s with
  | zero => exact .refl
  | succ n ih => exact .head (.work s 0) (ih _)

theorem run_of_advanceRx {n : Nat} (h : advanceRx n s = .next t) : Agent.rx.Run s t := by
  induction n generalizing s with
  | zero =>
    cases h
    exact .refl
  | succ n ih =>
    unfold advanceRx at h
    split at h
    · cases h
      exact .refl
    · obtain ⟨u, hu, ht⟩ := andThen_eq_next h
      exact .head (.rx hu) (ih ht)

theorem Agent.run_of_advance {a : Agent} (h : a.advance s = .next t) : a.Run s t := by
  cases a with
  | host =>
    cases h
    exact run_advanceHost _ s
  | rx => exact run_of_advanceRx h
  | tx k =>
    cases h
    exact run_advanceTx k _ s
  | work =>
    cases h
    exact run_advanceWork _ s

/-- What every atomic step of an agent keeps, its runs keep. -/
theorem Agent.Run.keeps {a : Agent} {P : State → Prop} (h : a.Run s t) (hP : ∀ {s t}, Micro a s t → P s → P t) (hs : P s) :
    P t := by
  induction h with
  | refl => exact hs
  | tail _ hstep ih => exact hP hstep ih

/-! ### The first step of a command -/

/-- What an accepted command's first atomic step leads to, and the agent that goes on (R212, R220, R225, R228, R234, R250,
R300). -/
inductive Starts (s : State) : Agent → State → Prop
  | create (n : Nat) (type : IfType) (hw : LongAddr) (live : s.life = .live) (free : s.freeSlot = some n) :
      Starts s .host ((s.create n type hw).respond [BitVec.ofNat 8 n, s.genOf n])
  | remove (h : Handle) (i : Iface) (live : s.life = .live) (iface : s.ifaceOf h = some i) :
      Starts s .host ((s.unlink h.slot.toNat).setHost (.removing s.ticket h.slot.toNat))
  | unregister (live : s.life = .live) :
      Starts s .host (({ s with life := .draining } : State).setHost (.unregistering s.ticket))
  | drain (live : s.life = .live) (vacant : s.boundSlots = []) :
      Starts s .host (({ s with life := .draining } : State).setHost (.draining s.ticket))
  | fatal (live : s.life = .live) (bound : s.boundSlots ≠ []) :
      Starts s .host ((({ s with life := .fatal, fatalCause := .nonEmptyFree } : State).event .fatalNonEmptyFree
        s.boundSlots.length).refuse .fatalNonEmptyFree)
  | write (h : Handle) (i : Iface) (r : Reg) (v : Value) (live : s.life = .live) (iface : s.ifaceOf h = some i)
      (room : ¬ (s.needsFilter r && !s.filterQueued h && s.wqFull) = true) :
      Starts s .host ((s.writeReg h i r v).respond [])
  | receive (bytes : List Byte) (short : bytes.length ≤ 127) (running : s.running = true) :
      Starts s .rx (s.startRx (.command s.ticket) bytes)
  | call (c : TxCtx) (ticket : c.k = s.ticket) (snapped : c.stage = .snapped) (live : s.life = .live) :
      Starts s (.tx s.ticket) (s.setTx (s.tx ++ [c]))

/-- The command is over with its first step, or the agent goes on in its burst. -/
def Goes (o : Host.Outcome State Fault Refusal) (a : Agent) (u : State) : Prop := o = .next u ∨ o = a.advance u

/-- R340: a command is refused or answered at once, or its first step is one of `Starts`, by its own agent. -/
def CommandOutcome (i : Instr) (s : State) : Prop :=
  Replies i s ∨ ∃ a u, a.addressee = some (addressee (encode i)) ∧ Starts s a u ∧ Goes (exec i s) a u

/-- A refusal, or an answer, is a reply. -/
theorem CommandOutcome.reply {bytes : List Byte} (h : exec i s = .next (s.replied bytes)) : CommandOutcome i s :=
  .inl ⟨bytes, h⟩

theorem CommandOutcome.starts {a : Agent} (ha : a.addressee = some (addressee (encode i))) (hu : Starts s a u)
    (h : Goes (exec i s) a u) : CommandOutcome i s :=
  .inr ⟨a, u, ha, hu, h⟩

theorem commandOutcome_ifAdd (type : Byte) (hw : LongAddr) (s : State) : CommandOutcome (.ifAdd type hw) s := by
  by_cases htype : 1 < type.toNat
  · exact .reply (exec_ifAdd_badOperand htype)
  rw [Nat.not_lt] at htype
  by_cases hlive : s.life = .live
  case neg => exact .reply (exec_ifAdd_gone htype hlive)
  cases hfree : s.freeSlot with
  | none => exact .reply (exec_ifAdd_tableFull htype hlive hfree)
  | some n => exact .starts rfl (.create n (ifTypeOf type) hw hlive hfree) (.inl (exec_ifAdd_created htype hlive hfree))

theorem commandOutcome_ifRemove (h : Handle) (s : State) : CommandOutcome (.ifRemove h) s := by
  by_cases hlive : s.life = .live
  case neg => exact .reply (exec_ifRemove_gone hlive)
  cases hi : s.ifaceOf h with
  | none => exact .reply (exec_ifRemove_badHandle hlive hi)
  | some i =>
    refine .starts rfl (.remove h i hlive hi) (.inr ?_)
    rw [exec_ifRemove_unlinks hlive hi, State.unlink_frame]
    rfl

theorem commandOutcome_devUnregister (s : State) : CommandOutcome .devUnregister s := by
  by_cases hlive : s.life = .live
  · exact .starts rfl (.unregister hlive) (.inr (exec_devUnregister_drains hlive))
  · exact .reply (exec_devUnregister_gone hlive)

theorem commandOutcome_devFree (s : State) : CommandOutcome .devFree s := by
  by_cases hlive : s.life = .live
  case neg => exact .reply (exec_devFree_gone hlive)
  by_cases hbound : s.boundSlots = []
  · exact .starts rfl (.drain hlive hbound) (.inr (exec_devFree_drains hlive hbound))
  · exact .starts rfl (.fatal hlive hbound) (.inl (exec_devFree_fatal hlive hbound))

theorem commandOutcome_cfgWrite (h : Handle) (reg : Byte) (v : Value) (s : State) :
    CommandOutcome (.cfgWrite h reg v) s := by
  obtain hreply | ⟨r, hreg, hrw, i, hlive, hi, hroom⟩ := replies_or_cfgWrite h reg v s
  · exact .inl hreply
  · exact .starts rfl (.write h i r v hlive hi hroom) (.inl (exec_cfgWrite_writes hreg hrw hlive hi hroom))

theorem commandOutcome_rxFrame (bytes : List Byte) (s : State) (hlen : bytes.length ≤ 127) :
    CommandOutcome (.rxFrame bytes) s := by
  cases hrun : s.running with
  | true => exact .starts rfl (.receive bytes hlen hrun) (.inr (exec_rxFrame_starts hrun))
  | false => exact .reply (exec_rxFrame_gone hrun)

theorem commandOutcome_txFrame (h : Handle) (type : Byte) (sec ackreq : Bool) (dst : Address) (src : Option Address)
    (payload : List Byte) (s : State) : CommandOutcome (.txFrame h type sec ackreq dst src payload) s := by
  obtain hreply | ⟨he, hlive, i, hi, hchannel, hfits⟩ := replies_or_txFrame h type sec ackreq dst src payload s
  · exact .inl hreply
  · exact .starts rfl (.call (TxCtx.opened s.ticket h type ackreq dst src payload i.snap) rfl rfl hlive)
      (.inr (exec_txFrame_opens he hlive hi hchannel hfits))

/-- Every command's outcome is of this form. -/
theorem commandOutcome (s : State) (hport : portOf i = .cmd) (hwf : WellFormed i = true) : CommandOutcome i s := by
  cases i with
  | ifAdd type hw => exact commandOutcome_ifAdd type hw s
  | ifRemove h => exact commandOutcome_ifRemove h s
  | devUnregister => exact commandOutcome_devUnregister s
  | devFree => exact commandOutcome_devFree s
  | cfgRead h reg => exact .inl (replies_cfgRead h reg s)
  | cfgWrite h reg v => exact commandOutcome_cfgWrite h reg v s
  | decodeHdr bytes => exact .inl (replies_decodeHdr bytes s)
  | encodeHdr h type sec ackreq seq dst src => exact .inl (replies_encodeHdr h type sec ackreq seq dst src s)
  | buildAck seq => exact .inl (replies_buildAck seq s)
  | crcCompute bytes => exact .inl (replies_crcCompute bytes s)
  | crcAppend bytes => exact .inl (replies_crcAppend bytes s)
  | crcVerify bytes => exact .inl (replies_crcVerify bytes s)
  | classify h dst srcMode => exact .inl (replies_classify h dst srcMode s)
  | rxFrame bytes => exact commandOutcome_rxFrame bytes s (by simpa [WellFormed, lengthOk] using hwf)
  | txFrame h type sec ackreq dst src payload => exact commandOutcome_txFrame h type sec ackreq dst src payload s
  | frameBeacon f => cases hport
  | frameData f => cases hport
  | frameAck f => cases hport
  | frameMaccmd f => cases hport
  | frameUnrecognized tt f => cases hport

end Sys2Proof.Machine

/-! ## The cases of a step -/

namespace Sys2Proof.Machine

variable {s t u : State} {m : Move} {i : Instr}

/-- `t` differs from `s` at most outside the block: inputs taken, responses, commands numbered, the schedule and the free
values. -/
def State.Quiet (s t : State) : Prop :=
  t = { s with
    cmdIn := t.cmdIn, phyIn := t.phyIn, out := t.out, ticket := t.ticket, sched := t.sched, burst := t.burst
    drawn := t.drawn } ∧ s.ticket ≤ t.ticket

theorem State.Quiet.refl (s : State) : s.Quiet s := ⟨rfl, le_rfl⟩

/-- The command at the head of CMD is taken: it gets the next ticket (R110). -/
def State.taken (s : State) (queue : List (List Byte)) : State := { s with cmdIn := queue, ticket := s.ticket + 1 }

theorem State.quiet_replied (s : State) (queue : List (List Byte)) (bytes : List Byte) :
    s.Quiet ((s.taken queue).replied bytes) :=
  ⟨rfl, Nat.le_succ _⟩

/-- What a move leads to. -/
inductive Performed (s : State) : Move → State → Prop
  | quiet {m : Move} {t : State} (h : s.Quiet t) : Performed s m t
  | reset : Performed s .reset s.restarted
  | host {j : Nat} {t : State} (alive : s.life ≠ .fatal) (run : Agent.host.Run s t) : Performed s (.host j) t
  | rx {j : Nat} {t : State} (alive : s.life ≠ .fatal) (run : Agent.rx.Run (s.focusRx j) t) : Performed s (.rx j) t
  | tx {k : Nat} {t : State} (alive : s.life ≠ .fatal) (run : (Agent.tx k).Run s t) : Performed s (.tx k) t
  | work {j : Nat} {t : State} (alive : s.life ≠ .fatal) (run : Agent.work.Run s t) : Performed s (.work j) t
  | command {bs : List Byte} {queue : List (List Byte)} {a : Agent} {u t : State} (head : s.cmdIn = bs :: queue)
      (addressed : a.addressee = some (addressee bs)) (ready : s.cmdReady = true) (start : Starts (s.taken queue) a u)
      (run : a.Run u t) : Performed s .cmd t
  | frame {f : List Byte} {queue : List (List Byte)} {t : State} (running : s.running = true) (short : f.length ≤ 127)
      (run : Agent.rx.Run (({ s with phyIn := queue } : State).startRx .radio f) t) : Performed s .phy t

/-! ### Which moves are enabled -/

theorem hostMoves_host (h : m ∈ s.hostMoves) : ∃ j, m = .host j := by
  unfold State.hostMoves at h
  split at h
  · cases h
  · split at h
    · cases h
    · exact ⟨0, List.mem_singleton.1 h⟩
  · obtain ⟨j, -, rfl⟩ := List.mem_map.1 h
    exact ⟨j, rfl⟩
  · split at h
    · cases h
    · exact ⟨0, List.mem_singleton.1 h⟩
  · split at h
    · exact ⟨0, List.mem_singleton.1 h⟩
    · cases h
  · split at h
    · exact ⟨0, List.mem_singleton.1 h⟩
    · cases h
  · exact ⟨0, List.mem_singleton.1 h⟩

theorem rxMoves_rx (h : m ∈ s.rxMoves) : ∃ j, m = .rx j := by
  unfold State.rxMoves at h
  split at h
  · obtain ⟨j, -, rfl⟩ := List.mem_map.1 h
    exact ⟨j, rfl⟩
  · cases h

theorem txMoves_tx (h : m ∈ s.txMoves) : ∃ k, m = .tx k := by
  obtain ⟨c, -, rfl⟩ := List.mem_map.1 h
  exact ⟨c.k, rfl⟩

theorem workMoves_work (h : m ∈ s.workMoves) : ∃ j, m = .work j := by
  unfold State.workMoves at h
  split at h
  · split at h
    · obtain ⟨j, -, rfl⟩ := List.mem_map.1 h
      exact ⟨j, rfl⟩
    · cases h
  all_goals exact ⟨0, List.mem_singleton.1 h⟩

/-- The moves of the agents in progress. -/
def State.agentMoves (s : State) : List Move := s.hostMoves ++ s.rxMoves ++ s.txMoves ++ s.workMoves

/-- A move is the reset, an input taken, or one of an agent in progress, and of these none in `Fatal` (R229, R380). -/
theorem mem_moves : m ∈ s.moves ↔ (m = .reset ∧ s.resetIn = true) ∨ (m = .cmd ∧ s.cmdReady = true) ∨
    (m = .phy ∧ s.phyReady = true) ∨ (s.life ≠ .fatal ∧ m ∈ s.agentMoves) := by
  have hone (b : Bool) (m' : Move) : m ∈ (if b then [m'] else []) ↔ m = m' ∧ b = true := by
    cases b <;> simp
  have hagents : m ∈ (if s.life = .fatal then [] else s.agentMoves) ↔ s.life ≠ .fatal ∧ m ∈ s.agentMoves := by
    split <;> simp_all
  unfold State.moves
  simp only [List.mem_append (s := _ ++ _), List.mem_append (s := ite _ _ _), hone, or_assoc]
  rw [← hagents]
  rfl

theorem agentMoves_agent (h : m ∈ s.agentMoves) :
    (∃ j, m = .host j) ∨ (∃ j, m = .rx j) ∨ (∃ k, m = .tx k) ∨ ∃ j, m = .work j := by
  simp only [State.agentMoves, List.mem_append, or_assoc] at h
  exact h.imp hostMoves_host (.imp rxMoves_rx (.imp txMoves_tx workMoves_work))

theorem cmdReady_of_mem_moves (h : Move.cmd ∈ s.moves) : s.cmdReady = true := by
  obtain ⟨h, -⟩ | ⟨-, h⟩ | ⟨h, -⟩ | ⟨-, h⟩ := mem_moves.1 h
  · cases h
  · exact h
  · cases h
  · simpa using agentMoves_agent h

/-- R229: in `Fatal` no agent in progress has a move. -/
theorem alive_of_mem_moves (h : m ∈ s.moves) (hreset : m ≠ .reset) (hcmd : m ≠ .cmd) (hphy : m ≠ .phy) :
    s.life ≠ .fatal := by
  obtain ⟨h, -⟩ | ⟨h, -⟩ | ⟨h, -⟩ | ⟨h, -⟩ := mem_moves.1 h
  · exact absurd h hreset
  · exact absurd h hcmd
  · exact absurd h hphy
  · exact h

/-- R7: a command of the HOST agent is taken only when it is idle. -/
theorem host_idle_of_cmdReady {bs : List Byte} {queue : List (List Byte)} (hready : s.cmdReady = true)
    (hhead : s.cmdIn = bs :: queue) (ha : addressee bs = .host) : s.host = .idle := by
  simpa [State.cmdReady, hhead, ha] using hready

/-! ### What a move leads to -/

/-- R275: a pattern is the dispatch by its type. -/
theorem exec_frameInstr (type : BitVec 3) (f : FrameCtl) (s : State) :
    exec (frameInstr type f) s = s.dispatchBy (dispatchOn type) := by
  unfold frameInstr dispatchOn
  split_ifs with h0 h1 h2 h3
  · rfl
  · rfl
  · rfl
  · rfl
  · change s.dispatchBy (dispatchUnrecognized (1#1 ++ type.extractLsb' 0 2).toNat) = _
    rw [one_append_low_bits h0 h1 h2 h3]

theorem dispatchBy_of_atDispatch {c : RxCtx} {h : HandleCtx} {rest : List HandleCtx} (type : BitVec 3)
    (hd : s.atDispatch = some (c, h, rest)) :
    s.dispatchBy (dispatchOn type) = advanceRx s.burst (s.dispatched type c h rest) := by
  simp only [State.dispatchBy, hd, State.dispatched]

/-- A turn of the RX agent is a dispatch by a pattern with its burst, or a step of the state machine with its burst. -/
theorem turnRx_cases (s : State) :
    (∃ c h rest type, s.atDispatch = some (c, h, rest) ∧ turnRx s = advanceRx s.burst (s.dispatched type c h rest)) ∨
      turnRx s = runRx s := by
  unfold turnRx
  split
  case h_2 => exact .inr rfl
  case h_1 c h rest hd =>
    split
    case h_2 => exact .inr rfl
    case h_1 i hi =>
      obtain ⟨-, rfl⟩ := decodeFc_eq_ok.1 hi
      exact .inl ⟨c, h, rest, _, hd, by rw [exec_frameInstr, dispatchBy_of_atDispatch _ hd]⟩

theorem run_of_turnRx (h : turnRx s = .next t) : Agent.rx.Run s t := by
  obtain ⟨c, hd, rest, type, hat, hturn⟩ | hturn := turnRx_cases s
  · exact .head (.dispatch type hat) (run_of_advanceRx (hturn ▸ h))
  · rw [hturn] at h
    obtain ⟨u, hu, ht⟩ := andThen_eq_next h
    exact .head (.rx hu) (run_of_advanceRx ht)

theorem addressee_append {bs : List Byte} (h : bs ≠ []) (rest : List Byte) : addressee (bs ++ rest) = addressee bs := by
  cases bs with
  | nil => exact absurd rfl h
  | cons b tail => rfl

theorem encode_ne_nil (i : Instr) : encode i ≠ [] := by
  cases i <;> simp [encode, cmdHead, halfBytes]

/-- R110, R114: what running the command at the head of CMD leads to. -/
theorem performed_runCommand {bs : List Byte} {queue : List (List Byte)} (hready : s.cmdReady = true)
    (hhead : s.cmdIn = bs :: queue) (h : runCommand bs (s.taken queue) = .next t) : Performed s .cmd t := by
  unfold runCommand at h
  split at h
  case h_2 =>
    cases h
    exact .quiet (s.quiet_replied queue _)
  case h_1 i hi =>
    obtain ⟨hport, hwf, n, hbs⟩ := (commandDecodingExact bs i).1 hi
    have haddressee : addressee bs = addressee (encode i) := by rw [hbs, addressee_append (encode_ne_nil i)]
    obtain ⟨bytes, hreply⟩ | ⟨a, u, ha, hstart, hgoes⟩ := commandOutcome (s.taken queue) hport hwf
    · rw [hreply] at h
      cases h
      exact .quiet (s.quiet_replied queue bytes)
    · have hrun : a.Run u t := by
        obtain hnext | hadvance := hgoes
        · rw [hnext] at h
          cases h
          exact .refl
        · exact Agent.run_of_advance (hadvance ▸ h)
      exact .command hhead (haddressee ▸ ha) hready hstart hrun

theorem performed_cmd (hready : s.cmdReady = true) (h : takeCommand s = .next t) : Performed s .cmd t := by
  unfold takeCommand at h
  split at h
  · cases h
    exact .quiet (.refl _)
  · next hhead => exact performed_runCommand hready hhead h

theorem performed_phy (h : takeFrame s = .next t) : Performed s .phy t := by
  unfold takeFrame at h
  split at h
  · cases h
    exact .quiet (.refl _)
  · split at h
    case isFalse =>
      cases h
      exact .quiet ⟨rfl, le_rfl⟩
    case isTrue f queue _ hlen =>
      unfold receiveFrame at h
      split at h
      · next hrun => exact .frame hrun hlen (run_of_advanceRx h)
      · cases h
        exact .quiet ⟨rfl, le_rfl⟩

theorem performed_of_perform (hm : m ∈ s.moves) (h : perform m s = .next t) : Performed s m t := by
  cases m with
  | cmd => exact performed_cmd (cmdReady_of_mem_moves hm) h
  | phy => exact performed_phy h
  | host j =>
    cases h
    exact .host (alive_of_mem_moves hm (by simp) (by simp) (by simp)) (.head (.host s j) (run_advanceHost _ _))
  | rx j => exact .rx (alive_of_mem_moves hm (by simp) (by simp) (by simp)) (run_of_turnRx h)
  | tx k =>
    cases h
    exact .tx (alive_of_mem_moves hm (by simp) (by simp) (by simp)) (.head (.tx s k) (run_advanceTx k _ _))
  | work j =>
    cases h
    exact .work (alive_of_mem_moves hm (by simp) (by simp) (by simp)) (.head (.work s j) (run_advanceWork _ _))
  | reset =>
    cases h
    exact .reset

/-- `s` with another place in the schedule. -/
def State.rescheduled (s : State) (sched : List Pick) (burst drawn : Nat) : State :=
  { s with sched := sched, burst := burst, drawn := drawn }

theorem rescheduled_of_turn {m : Option Move} (h : s.turn = (m, u)) :
    u = s.rescheduled u.sched u.burst u.drawn := by
  have hframe := s.turn_frame
  rw [h] at hframe
  exact hframe

/-- R7, R382: a step is the move whose turn it is, or none. -/
theorem step_cases (h : step s = .next t) :
    (∃ m sched burst drawn, s.turn.1 = some m ∧ Performed (s.rescheduled sched burst drawn) m t) ∨
      s.turn.1 = none ∧ s.Quiet t := by
  rw [step_eq] at h
  split at h
  case h_1 m u hturn =>
    have hmem : m ∈ s.moves := State.turn_mem hturn
    rw [rescheduled_of_turn hturn] at h
    exact .inl ⟨m, _, _, _, by rw [hturn], performed_of_perform (s := s.rescheduled u.sched u.burst u.drawn) hmem h⟩
  case h_2 u hturn =>
    rw [rescheduled_of_turn hturn] at h
    cases h
    exact .inr ⟨by rw [hturn], rfl, le_rfl⟩

/-! ### Invariants -/

/-- Kept by everything a step is made of. -/
structure Kept (P : State → Prop) : Prop where
  quiet : ∀ {s t : State}, s.Quiet t → P s → P t
  reset : ∀ {s : State}, P s → P s.restarted
  micro : ∀ {a : Agent} {s t : State}, Micro a s t → P s → P t
  focus : ∀ {s : State} (j : Nat), P s → P (s.focusRx j)
  start : ∀ {s u : State} (queue : List (List Byte)) {a : Agent}, (a = .host → s.host = .idle) →
    Starts (s.taken queue) a u → P s → P u
  frame : ∀ {s : State} {f : List Byte}, f.length ≤ 127 → P s → P (s.startRx .radio f)

theorem Kept.performed {P : State → Prop} (k : Kept P) (h : Performed s m t) (hs : P s) : P t := by
  cases h with
  | quiet h => exact k.quiet h hs
  | reset => exact k.reset hs
  | host _ run => exact run.keeps k.micro hs
  | rx _ run => exact run.keeps k.micro (k.focus _ hs)
  | tx _ run => exact run.keeps k.micro hs
  | work _ run => exact run.keeps k.micro hs
  | @command bs queue a _ _ head addressed ready start run =>
    refine run.keeps k.micro (k.start queue (fun ha => ?_) start hs)
    subst ha
    exact host_idle_of_cmdReady ready head (Option.some.inj addressed).symm
  | frame _ short run => exact run.keeps k.micro (k.frame short (k.quiet ⟨rfl, le_rfl⟩ hs))

/-- What everything a step is made of keeps, every step keeps. -/
theorem Kept.step {P : State → Prop} (k : Kept P) (h : step s = .next t) (hs : P s) : P t := by
  obtain ⟨m, sched, burst, drawn, -, hperf⟩ | ⟨-, hquiet⟩ := step_cases h
  · exact k.performed hperf (k.quiet (t := s.rescheduled sched burst drawn) ⟨rfl, le_rfl⟩ hs)
  · exact k.quiet hquiet hs

end Sys2Proof.Machine

/-! ## What an atomic step of the RX agent does

To the frame in progress (`RxTo`), to the work queue and to the drop counters (`RxEffect`). -/

namespace Sys2Proof.Machine

variable {s t : State} {c : RxCtx} {h : HandleCtx} {rest : List HandleCtx}

/-- Where the frame in progress goes in one atomic step (R250 to R280). -/
inductive RxTo (s : State) (c : RxCtx) : Option RxCtx → Prop
  | checked (at_ : c.st = .checksumCheck) : RxTo s c (some { c with st := .decode })
  | stripped (at_ : c.st = .checksumCheck) : RxTo s c (some { c with len := c.len - fcsLen, st := .decode })
  | badChecksum (at_ : c.st = .checksumCheck) : RxTo s c (some { c with st := .dropped .badChecksum })
  | decoded {md : Md} (at_ : c.st = .decode) (ok : decodeHdr fcLayout c.buf c.len = .ok md) :
      RxTo s c (some { c with cur := md.hdrLen, st := .fanout md (List.range s.slots.length) [] })
  | rejected {e : HdrError} {cur : Nat} (at_ : c.st = .decode) (error : decodeHdr fcLayout c.buf c.len = .error (e, cur)) :
      RxTo s c (some { c with cur := cur, st := .dropped (.malformed e) })
  | visited {md : Md} {n : Nat} {todo taken taken' : List Nat} (at_ : c.st = .fanout md (n :: todo) taken)
      (visit : taken' = taken ∨ taken' = taken ++ [n] ∧ s.matchesSlot n = true) :
      RxTo s c (some { c with st := .fanout md todo taken' })
  | unmatched {md : Md} (at_ : c.st = .fanout md [] []) : RxTo s c (some { c with st := .dropped .noInterface })
  | spread {md : Md} {taken : List Nat} (at_ : c.st = .fanout md [] taken) :
      RxTo s c (some { c with st := .handling (handlesOf ⟨c.buf, c.len, md⟩ taken), outcomes := [] })
  | advanced {h h' : HandleCtx} {rest : List HandleCtx} (at_ : c.st = .handling (h :: rest)) (slot : h'.slot = h.slot)
      (copy : ∃ bytes scope, h'.copy = ⟨bytes, h.copy.len, { h.copy.md with scope := scope }⟩) :
      RxTo s c (some { c with st := .handling (h' :: rest) })
  | finished {h : HandleCtx} {rest : List HandleCtx} (at_ : c.st = .handling (h :: rest)) (o : CopyOutcome) :
      RxTo s c (some { c with st := .handling rest, outcomes := c.outcomes ++ [(h.slot, o)] })
  | done (at_ : c.st = .handling []) : RxTo s c (some { c with st := .done })
  | over : RxTo s c none

/-- An atomic step of the RX agent on the frame `c`: where the frame goes, that nothing but an acknowledgement is queued,
and only where there is room, and that a drop counter stays or goes up by one. -/
structure RxEffect (s : State) (c : RxCtx) (t : State) : Prop where
  rx : RxTo s c t.rx
  wq : t.wq = s.wq ∨ ∃ x h rest, c.st = .handling (h :: rest) ∧ x.origin = .ackSynth ∧ s.wqFull = false ∧
    t.wq = s.wq ++ [.xmit x]
  badcsum : t.cntBadcsum = s.cntBadcsum ∨ t.cntBadcsum = nextCount s.cfg s.cntBadcsum
  malformed : t.cntMalformed = s.cntMalformed ∨ t.cntMalformed = nextCount s.cfg s.cntMalformed

/-- A step that touches neither the queue nor the counters. -/
theorem RxEffect.of_rx (rx : RxTo s c t.rx) (wq : t.wq = s.wq) (badcsum : t.cntBadcsum = s.cntBadcsum)
    (malformed : t.cntMalformed = s.cntMalformed) : RxEffect s c t :=
  ⟨rx, .inl wq, .inl badcsum, .inl malformed⟩

theorem rxEffect_checksum (hst : c.st = .checksumCheck) : RxEffect s c (rxChecksum c s) := by
  unfold rxChecksum
  split
  · exact .of_rx (.checked hst) rfl rfl rfl
  · split
    · exact .of_rx (.stripped hst) rfl rfl rfl
    · exact ⟨.badChecksum hst, .inl rfl, .inr rfl, .inl rfl⟩

theorem rxEffect_decode (hst : c.st = .decode) : RxEffect s c (rxDecode c s) := by
  unfold rxDecode
  split
  · next hok => exact .of_rx (.decoded hst hok) rfl rfl rfl
  · next herror =>
    unfold State.noteMalformed
    split
    · exact .of_rx (.rejected hst herror) rfl rfl rfl
    · exact ⟨.rejected hst herror, .inl rfl, .inl rfl, .inr rfl⟩

theorem rxEffect_fanout {md : Md} {todo taken : List Nat} (hst : c.st = .fanout md todo taken) :
    RxEffect s c (rxFanout c md todo taken s) := by
  unfold rxFanout
  split
  · refine .of_rx (.visited hst ?_) rfl rfl rfl
    split
    · next hmatch => exact .inr ⟨rfl, hmatch⟩
    · exact .inl rfl
  · split
    · exact .of_rx (.unmatched hst) rfl rfl rfl
    · exact .of_rx (.spread hst) rfl rfl rfl

theorem rxEffect_end (code : Byte) : RxEffect s c (rxEnd c code s) := by
  unfold rxEnd
  split <;> exact .of_rx .over rfl rfl rfl

/-- A handle that goes on with its copy as it is. -/
theorem RxTo.staged (hst : c.st = .handling (h :: rest)) (stage : Stage) :
    RxTo s c (some { c with st := .handling ({ h with stage := stage } :: rest) }) :=
  .advanced hst rfl ⟨_, _, rfl⟩

theorem rxEffect_queueAck (hst : c.st = .handling (h :: rest)) (channel : Byte) :
    RxEffect s c ((s.queueAck channel h.copy.md.seq).putHandle c { h with stage := .dispatch } rest) := by
  by_cases hno : channel = s.cfg.chanNone ∨ s.cfg.wqDepth ≤ s.wq.length
  · rw [State.queueAck_not_sent hno]
    exact .of_rx (.staged hst _) rfl rfl rfl
  · rw [not_or, Nat.not_le] at hno
    obtain ⟨hchannel, hroom⟩ := hno
    rw [State.queueAck_queued hchannel hroom]
    have hfull : s.wqFull = false := by simpa [State.wqFull] using hroom
    exact ⟨.staged hst _, .inr ⟨⟨ackFrame s.cfg h.copy.md.seq, channel, .ackSynth⟩, h, rest, hst, rfl, hfull, rfl⟩,
      .inl rfl, .inl rfl⟩

theorem rxEffect_dispatched (hst : c.st = .handling (h :: rest)) (type : BitVec 3) :
    RxEffect s c (s.dispatched type c h rest) := by
  unfold State.dispatched dispatchOn
  split_ifs <;> exact .of_rx (.staged hst _) rfl rfl rfl

theorem rxEffect_handle (hst : c.st = .handling (h :: rest)) (e : rxHandle c h rest s = .next t) : RxEffect s c t := by
  unfold rxHandle at e
  split at e
  · split at e <;> cases e
    · exact .of_rx (.advanced hst rfl ⟨_, _, rfl⟩) (by simp) (by simp) (by simp)
    · exact .of_rx (.finished hst _) (by simp) (by simp) (by simp)
  · unfold rxClassify at e
    split at e
    · cases e
    · cases e
      exact .of_rx (.advanced hst rfl ⟨_, _, rfl⟩) rfl rfl rfl
  · cases e
    unfold rxAckCheck
    split <;> exact .of_rx (.staged hst _) rfl rfl rfl
  · cases e
    exact .of_rx (.staged hst _) rfl rfl rfl
  · cases e
    exact rxEffect_queueAck hst _
  · cases e
    exact rxEffect_dispatched hst _
  · cases e
    unfold State.recordParsed
    split <;> exact .of_rx (.staged hst _) (by simp) (by simp) (by simp)
  · cases e
    exact .of_rx (.staged hst _) (by simp) (by simp) (by simp)
  · cases e
    exact .of_rx (.finished hst _) rfl rfl rfl

theorem atDispatch_eq_some :
    s.atDispatch = some (c, h, rest) ↔ s.rx = some c ∧ c.st = .handling (h :: rest) ∧ h.stage = .dispatch := by
  unfold State.atDispatch
  constructor
  · intro e
    split at e
    case h_2 => cases e
    case h_1 c' hrx =>
      split at e
      case h_1 h' rest' hst =>
        split at e
        case isFalse => cases e
        case isTrue hstage =>
          cases e
          exact ⟨hrx, hst, hstage⟩
      all_goals cases e
  · rintro ⟨hrx, hst, hstage⟩
    simp only [hrx, hst, hstage, if_true]

/-- With no frame the RX agent does nothing; else it moves the frame. -/
theorem Micro.rx_cases (e : Micro .rx s t) : (s.rx = none ∧ t = s) ∨ ∃ c, s.rx = some c ∧ RxEffect s c t := by
  cases e with
  | dispatch type hd =>
    obtain ⟨hrx, hst, -⟩ := atDispatch_eq_some.1 hd
    exact .inr ⟨_, hrx, rxEffect_dispatched hst type⟩
  | rx e =>
    unfold rxMicro at e
    split at e
    case h_1 hrx =>
      cases e
      exact .inl ⟨hrx, rfl⟩
    case h_2 c hrx =>
      refine .inr ⟨c, hrx, ?_⟩
      split at e
      · next hst => cases e; exact rxEffect_checksum hst
      · next hst => cases e; exact rxEffect_decode hst
      · next hst => cases e; exact rxEffect_fanout hst
      · next hst => cases e; exact .of_rx (.done hst) rfl rfl rfl
      · next hst => exact rxEffect_handle hst e
      · cases e; exact rxEffect_end _
      · cases e; exact rxEffect_end _

/-- An atomic step of the RX agent writes only what the RX agent may write. -/
theorem Micro.rx_frame (e : Micro .rx s t) : s.RxFrame t := by
  cases e with
  | rx e => exact rxMicro_frame e
  | dispatch type hd => exact (dispatchOn_frame type _ s).trans (.setRx _ _)

/-- The choice of a slot or handle reorders a frame's lists, and changes nothing else. -/
theorem focusRx_of_some (hrx : s.rx = some c) (j : Nat) :
    s.focusRx j = s.setRx (some { c with st := c.st.focus j }) := by
  simp only [State.focusRx, hrx, State.rxTo]

theorem focusRx_of_none (hrx : s.rx = none) (j : Nat) : s.focusRx j = s := by
  simp only [State.focusRx, hrx]

theorem focusRx_frame (s : State) (j : Nat) : s.focusRx j = s.setRx (s.focusRx j).rx := by
  cases hrx : s.rx with
  | none =>
    rw [focusRx_of_none hrx, hrx]
    simp only [State.setRx, ← hrx]
  | some c => rw [focusRx_of_some hrx, State.setRx_rx]

end Sys2Proof.Machine

/-! ## What an atomic step of the HOST agent, of a TX agent and of the WORK agent does -/

namespace Sys2Proof.Machine

variable {s t : State} {k n : Nat} {c : TxCtx}

/-- The HOST agent's atomic steps (R220, R225, R228). -/
inductive HostTo (s : State) : State → Prop
  | waits : HostTo s s
  | removed {k n : Nat} (at_ : s.host = .removing k n) (unheld : s.holds n = false) :
      HostTo s (((s.vacate n).setHost .idle).answer k [0#8])
  | drains {k : Nat} (at_ : s.host = .unregistering k) (unbound : s.boundSlots = []) : HostTo s (s.setHost (.draining k))
  | unlinks {k n : Nat} (at_ : s.host = .unregistering k) (bound : n ∈ s.boundSlots) :
      HostTo s ((s.unlink n).setHost (.unlinking k n))
  | unlinked {k n : Nat} (at_ : s.host = .unlinking k n) (unheld : s.holds n = false) :
      HostTo s ((s.vacate n).setHost (.unregistering k))
  | settles {k : Nat} (at_ : s.host = .draining k) (drained : s.Drained) : HostTo s (s.setHost (.settling k))
  | releases {k : Nat} (at_ : s.host = .settling k) (still : s.trav = []) : HostTo s (s.setHost (.releasing k))
  | released {k : Nat} (at_ : s.host = .releasing k) :
      HostTo s ((({ s with life := .released } : State).setHost .idle).answer k [0#8])

theorem hostMicro_cases (j : Nat) (s : State) : HostTo s (hostMicro j s) := by
  unfold hostMicro
  split
  · exact .waits
  · next hhost =>
    split
    · exact .waits
    · next hheld => exact .removed hhost (Bool.not_eq_true _ ▸ hheld)
  · next hhost =>
    split
    · next hnil => exact .drains hhost (toFront_eq_nil.1 hnil)
    · next n l hcons => exact .unlinks hhost ((toFront_perm s.boundSlots j).subset (hcons ▸ List.mem_cons_self))
  · next hhost =>
    split
    · exact .waits
    · next hheld => exact .unlinked hhost (Bool.not_eq_true _ ▸ hheld)
  · next hhost =>
    split
    · next h => exact .settles hhost ⟨h.1, State.wqBusy_eq_false.1 h.2⟩
    · exact .waits
  · next hhost =>
    split
    · next h => exact .releases hhost h
    · exact .waits
  · next hhost => exact .released hhost

theorem Micro.host_cases (h : Micro .host s t) : HostTo s t := by
  cases h with
  | host _ j => exact hostMicro_cases j s

/-- A TX agent's atomic steps (R300): a call ends with an answer at any stage but the wait. -/
inductive TxTo (s : State) (k : Nat) : State → Prop
  | waits : TxTo s k s
  | numbered {c : TxCtx} {i : Iface} (call : s.txCall k = some c) (at_ : c.stage = .snapped)
      (iface : s.ifaceOf c.h = some i) :
      TxTo s k ((s.setIface c.h (i.bumped c.type)).txTo k (.numbered (i.seqFor c.type)))
  | built {c : TxCtx} {seq : Byte} (call : s.txCall k = some c) (at_ : c.stage = .numbered seq) (t : TxBuf) :
      TxTo s k (s.txBuilt k t)
  | queued {c : TxCtx} (call : s.txCall k = some c) (at_ : c.stage = .built) (live : s.life = .live)
      (room : s.wqFull = false) :
      TxTo s k ((s.pushWork (.xmit ⟨c.txc.frame, c.snap.channel, .txCall k⟩)).txTo k .waiting)
  | ended {c : TxCtx} (call : s.txCall k = some c) (at_ : c.stage ≠ .waiting) (bytes : List Byte) :
      TxTo s k ((s.endTx k).answer k bytes)

theorem txCall_ticket (h : s.txCall k = some c) : c.k = k := by
  simpa using List.find?_some h

theorem txMicro_cases (k : Nat) (s : State) : TxTo s k (txMicro k s) := by
  unfold txMicro
  split
  · exact .waits
  next c hcall =>
    obtain rfl := txCall_ticket hcall
    split
    · next hstage =>
      unfold txNumber
      split
      · exact .ended hcall (by simp [hstage]) _
      · next hi => exact .numbered hcall hstage hi
    · next hstage => exact .built hcall hstage _
    · next hstage =>
      unfold txHandOver
      split
      · next hlive =>
        split
        · exact .ended hcall (by simp [hstage]) _
        · next hfull => exact .queued hcall hstage hlive (Bool.not_eq_true _ ▸ hfull)
      · exact .ended hcall (by simp [hstage]) _
    · exact .waits
    · next hstage => exact .ended hcall (by simp [hstage]) _

theorem Micro.tx_cases (h : Micro (.tx k) s t) : TxTo s k t := by
  cases h
  exact txMicro_cases k s

/-- R318: a result goes to the call that queued the item, if one did. -/
theorem workReport_tx (x : Xmit) (r : XmitResult) (s : State) :
    (workReport x r s).tx = x.origin.informed s.tx r := by
  obtain ⟨frame, channel, origin⟩ := x
  cases origin with
  | txCall k => rfl
  | ackSynth =>
    change (if r = .ok then s else s.event .ackNotSent (byteAt frame 2).toNat).tx = s.tx
    split
    · rfl
    · rfl

/-- The WORK agent's atomic steps, as the queue, the calls and the item in hand see them (R314 to R320). -/
inductive WorkTo (s t : State) : Prop
  | goes (wq : t.wq = s.wq) (tx : t.tx = s.tx) (call : t.work.call = s.work.call) (idle : s.work = .idle → t.work = .idle)
  | takes {j : Nat} {w : WorkItem} (at_ : s.work = .idle) (item : s.wq[j]? = some w) (wq : t.wq = s.wq.eraseIdx j)
      (tx : t.tx = s.tx) (work : t.work = .start w)
  | reports {x : Xmit} {r : XmitResult} (at_ : s.work = .report x r) (wq : t.wq = s.wq)
      (tx : t.tx = x.origin.informed s.tx r) (work : t.work = .finishing)

theorem workMicro_cases (j : Nat) (s : State) : WorkTo s (workMicro j s) := by
  unfold workMicro
  split
  · next hwork =>
    split
    · unfold State.takeWork
      split
      · next w hw => exact .takes hwork hw rfl rfl rfl
      · exact .goes rfl rfl rfl id
    · exact .goes rfl rfl rfl id
  · next w hwork =>
    unfold workStart
    split
    · split <;> exact .goes rfl rfl (by simp [hwork, WorkStage.call, WorkItem.call]) (by simp [hwork])
    · split <;> exact .goes rfl rfl (by simp [hwork, WorkStage.call, WorkItem.call]) (by simp [hwork])
  · next hwork => exact .goes rfl rfl (by simp [hwork, WorkStage.call]) (by simp [hwork])
  · next hwork =>
    split <;> exact .goes (by simp) (by simp) (by simp [hwork, WorkStage.call]) (by simp [hwork])
  · next hwork => exact .goes rfl rfl (by simp [hwork, WorkStage.call]) (by simp [hwork])
  · next hwork => exact .goes rfl rfl (by simp [hwork, WorkStage.call]) (by simp [hwork])
  · next hwork =>
    split <;> exact .goes (by simp) (by simp) (by simp [hwork, WorkStage.call]) (by simp [hwork])
  · next x r hwork =>
    refine .reports hwork ?_ (workReport_tx x r s) rfl
    unfold workReport
    split
    · rfl
    · split <;> rfl
  · next hwork => exact .goes rfl rfl (by simp [hwork, WorkStage.call]) (by simp [hwork])
  · next hwork => exact .goes rfl rfl (by simp [hwork, WorkStage.call]) (by simp [hwork])
  · next hwork => exact .goes rfl rfl (by simp [hwork, WorkStage.call]) (by simp [hwork])

theorem Micro.work_cases (h : Micro .work s t) : WorkTo s t := by
  cases h with
  | work _ j => exact workMicro_cases j s

theorem Micro.host_frame (h : Micro .host s t) : s.HostFrame t := by
  cases h with
  | host _ j => exact hostMicro_frame j s

theorem Micro.tx_frame (h : Micro (.tx k) s t) : s.TxFrame t := by
  cases h
  exact txMicro_frame k s

theorem Micro.work_frame (h : Micro .work s t) : s.WorkFrame t := by
  cases h with
  | work _ j => exact workMicro_frame j s

end Sys2Proof.Machine

/-! ## The slots a traversal holds have fields, so no step stops (R31, R221) -/

namespace Sys2Proof.Machine

variable {s t u : State} {c : RxCtx} {n m : Nat} {sl : Slot}

/-- The fields a slot holds, if any. -/
def State.fieldsAt (s : State) (n : Nat) : Option Iface := (s.slots[n]?).bind Slot.fields

theorem mem_trav_flatten : n ∈ s.trav.flatten ↔ ∃ c l, s.rx = some c ∧ c.st.held = some l ∧ n ∈ l := by
  unfold State.trav
  cases hrx : s.rx with
  | none => simp
  | some c => cases hheld : c.st.held <;> simp [hheld]

/-- A slot with fields keeps having them when another one is written, or it is written with fields. -/
theorem isSome_fieldsAt_set (h : (s.fieldsAt n).isSome = true) (hsl : m = n → sl.fields.isSome = true) :
    ((s.setSlot m sl).fieldsAt n).isSome = true := by
  unfold State.fieldsAt at *
  rw [State.setSlot_slots, List.getElem?_set]
  split
  · next hmn =>
    split
    · exact hsl hmn
    · next hlen =>
      subst hmn
      rw [List.getElem?_eq_none (by simpa using hlen)] at h
      cases h
  · exact h

theorem isSome_fieldsAt_unlink (h : (s.fieldsAt n).isSome = true) (m : Nat) :
    ((s.unlink m).fieldsAt n).isSome = true := by
  unfold State.unlink
  split
  · next sl hsl =>
    refine isSome_fieldsAt_set h fun hmn => ?_
    subst hmn
    obtain ⟨g, o⟩ := sl
    simp only [State.fieldsAt, hsl, Option.bind_some] at h
    cases o with
    | free => cases h
    | bound i => rfl
    | unlinked i => rfl
  · exact h

theorem isSome_fieldsAt_vacate (h : (s.fieldsAt n).isSome = true) (hne : m ≠ n) :
    ((s.vacate m).fieldsAt n).isSome = true := by
  unfold State.vacate
  split
  · exact isSome_fieldsAt_set h fun hmn => absurd hmn hne
  · exact h

/-- R261: a slot that matches is bound, so it has fields. -/
theorem isSome_fieldsAt_of_matchesSlot (h : s.matchesSlot n = true) : (s.fieldsAt n).isSome = true := by
  unfold State.matchesSlot at h
  split at h
  · next hsl =>
    split at h
    · next ho => simp [State.fieldsAt, hsl, Slot.fields, ho]
    · cases h
    · cases h
  · cases h

/-! ### Each part of a step keeps it -/

/-- The frame in progress and the fields of the slots it holds decide. -/
theorem slotsHeld_of_fields (hs : s.SlotsHeld) (hrx : t.rx = s.rx)
    (hfields : ∀ n, s.holds n = true → (s.fieldsAt n).isSome = true → (t.fieldsAt n).isSome = true) : t.SlotsHeld := by
  intro n hn
  rw [State.trav_congr hrx] at hn
  exact hfields n (State.holds_eq_true.2 hn) (hs n hn)

theorem slotsHeld_of_eq (hs : s.SlotsHeld) (hrx : t.rx = s.rx) (hslots : t.slots = s.slots) : t.SlotsHeld :=
  slotsHeld_of_fields hs hrx fun n _ h => by rwa [State.fieldsAt, hslots]

/-- A slot the frame holds after a step it held before, or it matched. -/
theorem RxTo.held {c' : RxCtx} (h : RxTo s c (some c')) {l : List Nat} (hl : c'.st.held = some l) (hn : n ∈ l) :
    (∃ l, c.st.held = some l ∧ n ∈ l) ∨ s.matchesSlot n = true := by
  cases h with
  | checked => cases hl
  | stripped => cases hl
  | badChecksum => cases hl
  | decoded => cases hl; cases hn
  | rejected => cases hl
  | visited hst visit =>
    cases hl
    obtain rfl | ⟨rfl, hmatch⟩ := visit
    · exact .inl ⟨_, by rw [hst]; rfl, hn⟩
    · obtain hn | hn := List.mem_append.1 hn
      · exact .inl ⟨_, by rw [hst]; rfl, hn⟩
      · exact .inr (List.mem_singleton.1 hn ▸ hmatch)
  | unmatched => cases hl
  | spread hst =>
    cases hl
    exact .inl ⟨_, by rw [hst]; rfl, handlesOf_slots _ _ ▸ hn⟩
  | advanced hst slot =>
    cases hl
    exact .inl ⟨_, by rw [hst]; rfl, by simpa [slot] using hn⟩
  | finished hst =>
    cases hl
    exact .inl ⟨_, by rw [hst]; rfl, List.mem_cons_of_mem _ hn⟩
  | done => cases hl

theorem slotsHeld_rx (e : Micro .rx s t) (hs : s.SlotsHeld) : t.SlotsHeld := by
  obtain ⟨-, rfl⟩ | ⟨c, hrx, heffect⟩ := e.rx_cases
  · exact hs
  intro n hn
  obtain ⟨c', l, hrx', hl, hn⟩ := mem_trav_flatten.1 hn
  have hslots : t.slots = s.slots := by rw [e.rx_frame]
  rw [hslots]
  have hto := heffect.rx
  rw [hrx'] at hto
  obtain ⟨l', hl', hn'⟩ | hmatch := hto.held hl hn
  · exact hs n (mem_trav_flatten.2 ⟨c, l', hrx, hl', hn'⟩)
  · exact isSome_fieldsAt_of_matchesSlot hmatch

theorem slotsHeld_host (e : Micro .host s t) (hs : s.SlotsHeld) : t.SlotsHeld := by
  have hne {m n : Nat} (hm : s.holds m = false) (hn : s.holds n = true) : m ≠ n := by
    rintro rfl
    simp [hm] at hn
  cases e.host_cases with
  | waits => exact hs
  | removed _ unheld =>
    exact slotsHeld_of_fields hs (by rw [State.vacate_frame]; rfl) fun n hn h => isSome_fieldsAt_vacate h (hne unheld hn)
  | drains => exact slotsHeld_of_eq hs rfl rfl
  | unlinks => exact slotsHeld_of_fields hs (by rw [State.unlink_frame]; rfl) fun n _ h => isSome_fieldsAt_unlink h _
  | unlinked _ unheld =>
    exact slotsHeld_of_fields hs (by rw [State.vacate_frame]; rfl) fun n hn h => isSome_fieldsAt_vacate h (hne unheld hn)
  | settles => exact slotsHeld_of_eq hs rfl rfl
  | releases => exact slotsHeld_of_eq hs rfl rfl
  | released => exact slotsHeld_of_eq hs rfl rfl

theorem slotsHeld_tx {k : Nat} (e : Micro (.tx k) s t) (hs : s.SlotsHeld) : t.SlotsHeld := by
  cases e.tx_cases with
  | waits => exact hs
  | numbered => exact slotsHeld_of_fields hs rfl fun n _ h => isSome_fieldsAt_set h fun _ => rfl
  | built => exact slotsHeld_of_eq hs rfl rfl
  | queued => exact slotsHeld_of_eq hs rfl rfl
  | ended => exact slotsHeld_of_eq hs rfl rfl

theorem slotsHeld_micro {a : Agent} (e : Micro a s t) (hs : s.SlotsHeld) : t.SlotsHeld := by
  cases a with
  | host => exact slotsHeld_host e hs
  | rx => exact slotsHeld_rx e hs
  | tx k => exact slotsHeld_tx e hs
  | work => exact slotsHeld_of_eq hs (by rw [e.work_frame]) (by rw [e.work_frame])

/-- The choice of a slot or handle keeps the slots held. -/
theorem focus_held (st : RxState) (j : Nat) {l : List Nat} (hl : (st.focus j).held = some l) :
    ∃ l', st.held = some l' ∧ l.Perm l' := by
  cases st with
  | fanout md todo taken =>
    cases todo with
    | nil =>
      cases hl
      exact ⟨_, rfl, toBack_perm taken j⟩
    | cons n rest =>
      cases hl
      exact ⟨_, rfl, .refl _⟩
  | handling hs =>
    cases hl
    exact ⟨_, rfl, (toFront_perm hs j).map _⟩
  | _ => cases hl

theorem slotsHeld_focus (j : Nat) (hs : s.SlotsHeld) : (s.focusRx j).SlotsHeld := by
  cases hrx : s.rx with
  | none => rwa [focusRx_of_none hrx]
  | some c =>
    rw [focusRx_of_some hrx]
    intro n hn
    obtain ⟨c', l, hc', hl, hn⟩ := mem_trav_flatten.1 hn
    cases hc'
    obtain ⟨l', hl', hperm⟩ := focus_held c.st j hl
    exact hs n (mem_trav_flatten.2 ⟨c, l', hrx, hl', hperm.subset hn⟩)

theorem slotsHeld_startRx (src : FrameSource) (bytes : List Byte) : (s.startRx src bytes).SlotsHeld := by
  intro n hn
  cases hn

theorem slotsHeld_start {a : Agent} (h : Starts s a u) (hs : s.SlotsHeld) : u.SlotsHeld := by
  cases h with
  | create n type hw =>
    refine slotsHeld_of_fields hs (by simp [State.create]) fun m _ h => ?_
    refine isSome_fieldsAt_set (s := s.drawSeq.2.drawSeq.2) ?_ fun _ => rfl
    simpa [State.fieldsAt] using h
  | remove h =>
    exact slotsHeld_of_fields hs (by rw [State.unlink_frame]; rfl) fun n _ h => isSome_fieldsAt_unlink h _
  | unregister => exact slotsHeld_of_eq hs rfl rfl
  | drain => exact slotsHeld_of_eq hs rfl rfl
  | fatal => exact slotsHeld_of_eq hs rfl rfl
  | write h i r v =>
    unfold State.writeReg
    split <;> exact slotsHeld_of_fields hs rfl fun n _ h => isSome_fieldsAt_set h fun _ => rfl
  | receive bytes => exact slotsHeld_startRx _ _
  | call => exact slotsHeld_of_eq hs rfl rfl

theorem slotsHeld_kept : Kept State.SlotsHeld where
  quiet h hs := slotsHeld_of_eq hs (by rw [h.1]) (by rw [h.1])
  reset _ n hn := by cases hn
  micro := slotsHeld_micro
  focus := slotsHeld_focus
  start queue _ _ h hs := slotsHeld_start h (slotsHeld_of_eq hs rfl rfl)
  frame _ _ := slotsHeld_startRx _ _

/-! ### No step stops -/

/-- Only the classification of a slot without fields stops (log 10). -/
theorem rxMicro_answers (hs : s.SlotsHeld) : ∃ t, rxMicro s = .next t := by
  unfold rxMicro
  split
  · exact ⟨_, rfl⟩
  next c hrx =>
    split
    case h_5 h rest hst =>
      unfold rxHandle
      split
      case h_1 => split <;> exact ⟨_, rfl⟩
      case h_2 =>
        have hheld := hs h.slot (mem_trav_flatten.2 ⟨c, _, hrx, by rw [hst]; rfl, List.mem_cons_self⟩)
        obtain ⟨i, hi⟩ := Option.isSome_iff_exists.1 hheld
        exact ⟨_, rxClassify_of_fields hi⟩
      all_goals exact ⟨_, rfl⟩
    all_goals exact ⟨_, rfl⟩

theorem advanceRx_answers (k : Nat) (hs : s.SlotsHeld) : ∃ t, advanceRx k s = .next t := by
  induction k generalizing s with
  | zero => exact ⟨s, rfl⟩
  | succ k ih =>
    cases hrx : s.rx with
    | none => exact ⟨s, advanceRx_none _ s hrx⟩
    | some c =>
      obtain ⟨u, hu⟩ := rxMicro_answers hs
      rw [advanceRx_succ k s c hrx, hu, andThen_next]
      exact ih (slotsHeld_micro (.rx hu) hs)

theorem Agent.advance_answers (a : Agent) (hs : s.SlotsHeld) : ∃ t, a.advance s = .next t := by
  cases a with
  | rx => exact advanceRx_answers _ hs
  | _ => exact ⟨_, rfl⟩

theorem turnRx_answers (hs : s.SlotsHeld) : ∃ t, turnRx s = .next t := by
  obtain ⟨c, h, rest, type, hat, hturn⟩ | hturn := turnRx_cases s
  · exact hturn ▸ advanceRx_answers _ (slotsHeld_micro (.dispatch type hat) hs)
  · obtain ⟨u, hu⟩ := rxMicro_answers hs
    rw [hturn, runRx, hu, andThen_next]
    exact advanceRx_answers _ (slotsHeld_micro (.rx hu) hs)

theorem takeCommand_answers (hs : s.SlotsHeld) : ∃ t, takeCommand s = .next t := by
  unfold takeCommand
  split
  · exact ⟨s, rfl⟩
  next bs queue _ =>
    unfold runCommand
    split
    case h_2 => exact ⟨_, rfl⟩
    case h_1 i hi =>
      obtain ⟨hport, hwf, -⟩ := (commandDecodingExact bs i).1 hi
      obtain ⟨bytes, hreply⟩ | ⟨a, u, -, hstart, hgoes⟩ := commandOutcome (s.taken queue) hport hwf
      · exact ⟨_, hreply⟩
      · obtain hnext | hadvance := hgoes
        · exact ⟨u, hnext⟩
        · exact hadvance ▸ a.advance_answers (slotsHeld_start hstart (slotsHeld_of_eq hs rfl rfl))

theorem takeFrame_answers (s : State) : ∃ t, takeFrame s = .next t := by
  unfold takeFrame receiveFrame
  split
  · exact ⟨_, rfl⟩
  · split
    · split
      · exact advanceRx_answers _ (slotsHeld_startRx _ _)
      · exact ⟨_, rfl⟩
    · exact ⟨_, rfl⟩

theorem perform_answers (m : Move) (hs : s.SlotsHeld) : ∃ t, perform m s = .next t := by
  cases m with
  | cmd => exact takeCommand_answers hs
  | phy => exact takeFrame_answers s
  | rx j => exact turnRx_answers (slotsHeld_focus j hs)
  | _ => exact ⟨_, rfl⟩

/-- Settles O54: no move stops where the slots held have fields, and every part of a step keeps that they have. -/
theorem stepNeverStops : Obligations.StepNeverStops := by
  intro s hs
  have hanswers : ∃ t, step s = .next t := by
    rw [step_eq]
    split
    · next m u hturn =>
      rw [rescheduled_of_turn hturn]
      exact perform_answers m (slotsHeld_of_eq hs rfl rfl)
    · exact ⟨_, rfl⟩
  obtain ⟨t, ht⟩ := hanswers
  exact ⟨t, ht, slotsHeld_kept.step ht hs⟩

end Sys2Proof.Machine

/-! ## The waiting calls are the calls of the items queued or being executed (R310, R311, R318)

Since the calls in progress have different tickets, the waiting ones are a list without repetition, and two such lists are
permutations of each other when they have the same members. -/

namespace Sys2Proof.Machine

variable {s t u : State} {c d : TxCtx} {k n : Nat} {f : TxCtx → TxCtx}

theorem mem_waitingCalls : n ∈ s.waitingCalls ↔ ∃ c ∈ s.tx, c.stage = .waiting ∧ c.k = n := by
  simp [State.waitingCalls, and_assoc]

theorem waitingCalls_nodup (h : (s.tx.map TxCtx.k).Nodup) : s.waitingCalls.Nodup :=
  h.sublist (List.filter_sublist.map _)

/-- The call of a ticket is the only one with it. -/
theorem eq_of_ticket (h : (s.tx.map TxCtx.k).Nodup) (hcall : s.txCall k = some c) (hd : d ∈ s.tx) (hk : d.k = k) :
    d = c :=
  List.inj_on_of_nodup_map h hd (List.mem_of_find?_eq_some hcall) (hk.trans (txCall_ticket hcall).symm)

theorem mem_tx_of_txCall (hcall : s.txCall k = some c) : c ∈ s.tx := List.mem_of_find?_eq_some hcall

/-- A step that gives out no ticket keeps the tickets. -/
theorem State.CallsTracked.of_sublist (hs : s.CallsTracked) (htx : (t.tx.map TxCtx.k).Sublist (s.tx.map TxCtx.k))
    (hticket : t.ticket = s.ticket) (hmatched : t.waitingCalls.Perm t.pendingCalls) : t.CallsTracked := by
  refine ⟨hs.tickets.sublist htx, fun c hc => ?_, hmatched⟩
  obtain ⟨d, hd, hdk⟩ := List.mem_map.1 (htx.subset (List.mem_map_of_mem hc))
  rw [hticket, ← hdk]
  exact hs.issued d hd

/-- A step that changes neither the calls nor the items' calls. -/
theorem State.CallsTracked.of_eq (hs : s.CallsTracked) (htx : t.tx = s.tx) (hpending : t.pendingCalls = s.pendingCalls)
    (hticket : s.ticket ≤ t.ticket) : t.CallsTracked := by
  refine ⟨htx ▸ hs.tickets, fun c hc => (hs.issued c (htx ▸ hc)).trans hticket, ?_⟩
  rw [hpending, State.waitingCalls, htx]
  exact hs.matched

/-! ### The calls after one of them has moved on -/

/-- The calls after the one with ticket `k` has changed. -/
def changeCall (l : List TxCtx) (k : Nat) (f : TxCtx → TxCtx) : List TxCtx := l.map (fun c => if c.k = k then f c else c)

theorem map_ticket_changeCall (hf : ∀ c, (f c).k = c.k) (l : List TxCtx) (k : Nat) :
    (changeCall l k f).map TxCtx.k = l.map TxCtx.k := by
  rw [changeCall, List.map_map]
  refine List.map_congr_left fun c _ => ?_
  simp only [Function.comp]
  split
  · exact hf c
  · rfl

/-- A call that does not wait, before and after. -/
theorem mem_waitingCalls_changeCall (htx : t.tx = changeCall s.tx k f) (hf : ∀ c, (f c).k = c.k) (hn : n ≠ k) :
    n ∈ t.waitingCalls ↔ n ∈ s.waitingCalls := by
  simp only [mem_waitingCalls, htx, changeCall, List.mem_map, exists_exists_and_eq_and]
  refine exists_congr fun c => and_congr_right fun _ => ?_
  split
  · next hk =>
    have : c.k ≠ n := fun h => hn (h.symm.trans hk)
    simp [hf, this]
  · rfl

theorem mem_waitingCalls_self (htx : t.tx = changeCall s.tx k f) (hf : ∀ c, (f c).k = c.k) :
    k ∈ t.waitingCalls ↔ ∃ c ∈ s.tx, c.k = k ∧ (f c).stage = .waiting := by
  simp only [mem_waitingCalls, htx, changeCall, List.mem_map, exists_exists_and_eq_and]
  refine exists_congr fun c => and_congr_right fun _ => ?_
  split
  · next hk => simp [hf, hk]
  · next hk => simp [hk]

theorem not_mem_waitingCalls (hs : s.CallsTracked) (hcall : s.txCall k = some c) (hstage : c.stage ≠ .waiting) :
    k ∉ s.waitingCalls := by
  rw [mem_waitingCalls]
  rintro ⟨d, hd, hwait, hk⟩
  exact hstage (eq_of_ticket hs.tickets hcall hd hk ▸ hwait)

/-- A call that goes on from a stage that is no wait to another one. -/
theorem State.CallsTracked.changed (hs : s.CallsTracked) (hcall : s.txCall k = some c) (hstage : c.stage ≠ .waiting)
    (hf : ∀ c, (f c).k = c.k ∧ (f c).stage ≠ .waiting) (htx : t.tx = changeCall s.tx k f)
    (hpending : t.pendingCalls = s.pendingCalls) (hticket : t.ticket = s.ticket) : t.CallsTracked := by
  have htickets := map_ticket_changeCall (fun c => (hf c).1) s.tx k
  refine hs.of_sublist (by rw [htx, htickets]) hticket ?_
  rw [hpending]
  refine (List.perm_ext_iff_of_nodup (waitingCalls_nodup (by rw [htx, htickets]; exact hs.tickets))
    (waitingCalls_nodup hs.tickets)).2 (fun n => ?_) |>.trans hs.matched
  by_cases hn : n = k
  · subst hn
    rw [mem_waitingCalls_self htx fun c => (hf c).1]
    exact iff_of_false (fun ⟨d, _, _, hd⟩ => (hf d).2 hd) (not_mem_waitingCalls hs hcall hstage)
  · exact mem_waitingCalls_changeCall htx (fun c => (hf c).1) hn

/-- R310: a call whose item is queued waits. -/
theorem State.CallsTracked.queued (hs : s.CallsTracked) (hcall : s.txCall k = some c) (hstage : c.stage ≠ .waiting)
    (hf : ∀ c, (f c).k = c.k ∧ (f c).stage = .waiting) (htx : t.tx = changeCall s.tx k f)
    (hpending : t.pendingCalls.Perm (k :: s.pendingCalls)) (hticket : t.ticket = s.ticket) : t.CallsTracked := by
  have htickets := map_ticket_changeCall (fun c => (hf c).1) s.tx k
  have hnot := not_mem_waitingCalls hs hcall hstage
  refine hs.of_sublist (by rw [htx, htickets]) hticket (.trans ?_ ((hs.matched.cons k).trans hpending.symm))
  refine (List.perm_ext_iff_of_nodup (waitingCalls_nodup (by rw [htx, htickets]; exact hs.tickets))
    (List.nodup_cons.2 ⟨hnot, waitingCalls_nodup hs.tickets⟩)).2 fun n => ?_
  by_cases hn : n = k
  · subst hn
    rw [mem_waitingCalls_self htx fun c => (hf c).1]
    exact iff_of_true ⟨c, mem_tx_of_txCall hcall, txCall_ticket hcall, (hf c).2⟩ List.mem_cons_self
  · rw [mem_waitingCalls_changeCall htx (fun c => (hf c).1) hn, List.mem_cons, or_iff_right hn]

/-- R318: the call of the item whose result is reported waits no longer. -/
theorem State.CallsTracked.reported (hs : s.CallsTracked) (hf : ∀ c, (f c).k = c.k ∧ (f c).stage ≠ .waiting)
    (htx : t.tx = changeCall s.tx k f) (hpending : s.pendingCalls = t.pendingCalls ++ [k]) (hticket : t.ticket = s.ticket) :
    t.CallsTracked := by
  have htickets := map_ticket_changeCall (fun c => (hf c).1) s.tx k
  have hnodup : (t.pendingCalls ++ [k]).Nodup := hpending ▸ hs.matched.nodup (waitingCalls_nodup hs.tickets)
  obtain ⟨hpnodup, -, hdisjoint⟩ := List.nodup_append.1 hnodup
  refine hs.of_sublist (by rw [htx, htickets]) hticket ?_
  refine (List.perm_ext_iff_of_nodup (waitingCalls_nodup (by rw [htx, htickets]; exact hs.tickets)) hpnodup).2 fun n => ?_
  by_cases hn : n = k
  · subst hn
    rw [mem_waitingCalls_self htx fun c => (hf c).1]
    exact iff_of_false (fun ⟨d, _, _, hd⟩ => (hf d).2 hd) fun h => hdisjoint n h n (List.mem_singleton.2 rfl) rfl
  · rw [mem_waitingCalls_changeCall htx (fun c => (hf c).1) hn, hs.matched.mem_iff, hpending, List.mem_append,
      List.mem_singleton, or_iff_left hn]

/-- A call that does not wait ends. -/
theorem State.CallsTracked.ended (hs : s.CallsTracked) (hcall : s.txCall k = some c) (hstage : c.stage ≠ .waiting)
    (htx : t.tx = s.tx.filter (fun c => c.k != k)) (hpending : t.pendingCalls = s.pendingCalls)
    (hticket : t.ticket = s.ticket) : t.CallsTracked := by
  have hsub : (t.tx.map TxCtx.k).Sublist (s.tx.map TxCtx.k) := htx ▸ List.filter_sublist.map _
  refine hs.of_sublist hsub hticket ?_
  rw [hpending]
  refine (List.perm_ext_iff_of_nodup (waitingCalls_nodup (hs.tickets.sublist hsub))
    (waitingCalls_nodup hs.tickets)).2 (fun n => ?_) |>.trans hs.matched
  simp only [mem_waitingCalls, htx, List.mem_filter, bne_iff_ne]
  constructor
  · rintro ⟨d, ⟨hd, -⟩, hwait, hk⟩
    exact ⟨d, hd, hwait, hk⟩
  · rintro ⟨d, hd, hwait, rfl⟩
    refine ⟨d, ⟨hd, ?_⟩, hwait, rfl⟩
    rintro rfl
    exact not_mem_waitingCalls hs hcall hstage (mem_waitingCalls.2 ⟨d, hd, hwait, rfl⟩)

/-! ### Each part of a step keeps it -/

theorem pendingCalls_of_eq (hwq : t.wq = s.wq) (hwork : t.work.call = s.work.call) : t.pendingCalls = s.pendingCalls := by
  rw [State.pendingCalls, hwq, hwork, State.pendingCalls]

/-- Queueing an item of no call. -/
theorem pendingCalls_of_append {w : WorkItem} (hwq : t.wq = s.wq ++ [w]) (hw : w.call = none)
    (hwork : t.work.call = s.work.call) : t.pendingCalls = s.pendingCalls := by
  simp [State.pendingCalls, hwq, hwork, List.filterMap_append, hw]

theorem callsTracked_host (e : Micro .host s t) (hs : s.CallsTracked) : t.CallsTracked :=
  hs.of_eq (by rw [e.host_frame]) (pendingCalls_of_eq (by rw [e.host_frame]) (by rw [e.host_frame]))
    (by rw [e.host_frame])

theorem callsTracked_rx (e : Micro .rx s t) (hs : s.CallsTracked) : t.CallsTracked := by
  obtain ⟨-, rfl⟩ | ⟨c, -, heffect⟩ := e.rx_cases
  · exact hs
  have hwork : t.work.call = s.work.call := by rw [e.rx_frame]
  refine hs.of_eq (by rw [e.rx_frame]) ?_ (by rw [e.rx_frame])
  obtain hwq | ⟨x, h, rest, -, horigin, -, hwq⟩ := heffect.wq
  · exact pendingCalls_of_eq hwq hwork
  · exact pendingCalls_of_append hwq (by simp [WorkItem.call, horigin, Origin.call]) hwork

theorem callsTracked_tx (e : Micro (.tx k) s t) (hs : s.CallsTracked) : t.CallsTracked := by
  cases e.tx_cases with
  | waits => exact hs
  | @numbered c i hcall hstage =>
    exact hs.changed hcall (by simp [hstage]) (f := fun d => { d with stage := .numbered (i.seqFor c.type) })
      (fun _ => ⟨rfl, by simp⟩) rfl rfl rfl
  | built hcall hstage t =>
    exact hs.changed hcall (by simp [hstage]) (f := fun c => { c with txc := t, stage := .built })
      (fun _ => ⟨rfl, by simp⟩) rfl rfl rfl
  | queued hcall hstage =>
    refine hs.queued hcall (by simp [hstage]) (f := fun c => { c with stage := .waiting }) (fun _ => ⟨rfl, rfl⟩) rfl ?_ rfl
    simp only [State.pendingCalls, State.txTo_eq_setTx, State.setTx_wq, State.pushWork_wq, State.setTx_work,
      State.pushWork_work, List.filterMap_append, List.append_assoc]
    exact List.perm_middle
  | ended hcall hstage => exact hs.ended hcall hstage rfl rfl rfl

theorem callsTracked_work (e : Micro .work s t) (hs : s.CallsTracked) : t.CallsTracked := by
  have hticket : t.ticket = s.ticket := by rw [e.work_frame]
  cases e.work_cases with
  | goes hwq htx hcall => exact hs.of_eq htx (pendingCalls_of_eq hwq hcall) hticket.ge
  | @takes j w hidle hitem hwq htx hwork =>
    refine hs.of_sublist (by rw [htx]) hticket ?_
    have hwaiting : t.waitingCalls = s.waitingCalls := by rw [State.waitingCalls, htx, State.waitingCalls]
    have hperm : s.wq.Perm (w :: s.wq.eraseIdx j) := by
      obtain ⟨hj, rfl⟩ := List.getElem?_eq_some_iff.1 hitem
      exact (List.getElem_cons_eraseIdx_perm hj).symm
    have hpending : t.pendingCalls.Perm s.pendingCalls := by
      have := hperm.filterMap WorkItem.call
      simp only [State.pendingCalls, hwq, hwork, hidle, WorkStage.call, Option.toList_none, List.append_nil]
      refine .trans ?_ this.symm
      rw [List.filterMap_cons]
      cases hw : w.call with
      | none => simp
      | some k => exact List.perm_append_singleton k _
    rw [hwaiting]
    exact hs.matched.trans hpending.symm
  | @reports x r hreport hwq htx hwork =>
    cases horigin : x.origin with
    | ackSynth =>
      refine hs.of_eq (by rw [htx, horigin]; rfl) (pendingCalls_of_eq hwq ?_) hticket.ge
      rw [hwork, hreport, WorkStage.call, WorkStage.call, horigin, Origin.call]
    | txCall k =>
      refine hs.reported (f := fun c => { c with stage := .completed r }) (fun _ => ⟨rfl, by simp⟩)
        (by rw [htx, horigin]; rfl) ?_ hticket
      simp [State.pendingCalls, hwq, hwork, hreport, WorkStage.call, horigin, Origin.call]

theorem callsTracked_micro {a : Agent} (e : Micro a s t) (hs : s.CallsTracked) : t.CallsTracked := by
  cases a with
  | host => exact callsTracked_host e hs
  | rx => exact callsTracked_rx e hs
  | tx k => exact callsTracked_tx e hs
  | work => exact callsTracked_work e hs

/-- A call opened under a ticket no other call has. -/
theorem State.CallsTracked.opened (hs : s.CallsTracked) (hfresh : ∀ d ∈ s.tx, d.k < c.k) (hstage : c.stage = .snapped)
    (htx : t.tx = s.tx ++ [c]) (hpending : t.pendingCalls = s.pendingCalls) (hticket : c.k ≤ t.ticket) :
    t.CallsTracked := by
  refine ⟨?_, fun d hd => ?_, ?_⟩
  · rw [htx, List.map_append, List.nodup_append]
    refine ⟨hs.tickets, List.nodup_singleton _, ?_⟩
    intro n hn m hm
    obtain ⟨d, hd, rfl⟩ := List.mem_map.1 hn
    obtain rfl := List.mem_singleton.1 hm
    exact (hfresh d hd).ne
  · rw [htx, List.mem_append, List.mem_singleton] at hd
    obtain hd | rfl := hd
    · exact (hfresh d hd).le.trans hticket
    · exact hticket
  · rw [hpending, State.waitingCalls, htx]
    simpa [hstage, State.waitingCalls] using hs.matched

theorem callsTracked_start {a : Agent} (queue : List (List Byte)) (h : Starts (s.taken queue) a u) (hs : s.CallsTracked) :
    u.CallsTracked := by
  cases h with
  | create => exact hs.of_eq (by simp [State.create, State.taken]) (pendingCalls_of_eq (by simp [State.create, State.taken])
      (by simp [State.create, State.taken])) (by simp [State.create, State.taken])
  | remove =>
    rw [State.unlink_frame]
    exact hs.of_eq rfl rfl (Nat.le_succ _)
  | unregister => exact hs.of_eq rfl rfl (Nat.le_succ _)
  | drain => exact hs.of_eq rfl rfl (Nat.le_succ _)
  | fatal => exact hs.of_eq rfl rfl (Nat.le_succ _)
  | write h i r v =>
    unfold State.writeReg
    split
    · exact hs.of_eq rfl (pendingCalls_of_append (w := .filterUpdate h) rfl rfl rfl) (Nat.le_succ _)
    · exact hs.of_eq rfl rfl (Nat.le_succ _)
  | receive => exact hs.of_eq rfl rfl (Nat.le_succ _)
  | call c hticket hstage =>
    refine hs.opened (c := c) (fun d hd => ?_) hstage rfl rfl hticket.le
    rw [hticket]
    exact Nat.lt_succ_of_le (hs.issued d hd)

theorem callsTracked_kept : Kept State.CallsTracked where
  quiet h hs := hs.of_eq (by rw [h.1]) (pendingCalls_of_eq (by rw [h.1]) (by rw [h.1])) h.2
  reset _ := ⟨List.nodup_nil, fun _ h => (by cases h), .refl _⟩
  micro := callsTracked_micro
  focus j hs := by
    rw [focusRx_frame]
    exact hs.of_eq rfl rfl le_rfl
  start queue _ _ h := callsTracked_start queue h
  frame _ hs := hs.of_eq rfl rfl le_rfl

/-- Settles O58: every part of a step keeps it. -/
theorem callsTrackedKept : Obligations.CallsTrackedKept := fun _ _ hs h => callsTracked_kept.step h hs

end Sys2Proof.Machine

/-! ## The life-cycle invariant (R22, R225, R226, R228, R350) -/

namespace Sys2Proof.Machine

variable {s t u : State} {c : RxCtx} {h : Handle} {i j : Iface} {k m n : Nat} {sl : Slot}

/-- Slot `n` is unlinked. -/
def State.UnlinkedAt (s : State) (n : Nat) : Prop := (s.slots[n]?).map Slot.unlinked = some true

theorem State.UnlinkedAt.awaited (hn : s.UnlinkedAt n) (hs : s.GraceAwaited) : s.host.awaited = some n := by
  refine hs n ?_ hn
  by_contra hlen
  rw [State.UnlinkedAt, List.getElem?_eq_none (by omega)] at hn
  cases hn

/-- After a slot has been written, the unlinked ones are the others that were, and the one written if it is. -/
theorem unlinkedAt_setSlot (hn : (s.setSlot m sl).UnlinkedAt n) : (m = n ∧ sl.unlinked = true) ∨ (m ≠ n ∧ s.UnlinkedAt n) := by
  rw [State.UnlinkedAt, State.setSlot_slots, List.getElem?_set] at hn
  split at hn
  · next hmn =>
    split at hn
    · exact .inl ⟨hmn, by simpa using hn⟩
    · cases hn
  · next hmn => exact .inr ⟨hmn, hn⟩

theorem unlinkedAt_unlink (hn : (s.unlink m).UnlinkedAt n) : m = n ∨ s.UnlinkedAt n := by
  unfold State.unlink at hn
  split at hn
  · exact (unlinkedAt_setSlot hn).imp And.left And.right
  · exact .inr hn

theorem unlinkedAt_vacate (hn : (s.vacate m).UnlinkedAt n) : m ≠ n ∧ s.UnlinkedAt n := by
  unfold State.vacate at hn
  split at hn
  · exact (unlinkedAt_setSlot hn).resolve_left fun h => by simp [Slot.unlinked] at h
  · next hnone =>
    refine ⟨?_, hn⟩
    rintro rfl
    rw [State.UnlinkedAt, hnone] at hn
    cases hn

theorem not_vacant_of_getElem (hsl : s.slots[n]? = some sl) (ho : sl.occ ≠ .free) : ¬ s.Vacant :=
  fun hv => ho (hv sl (List.mem_of_getElem? hsl))

theorem not_vacant_of_ifaceOf (hi : s.ifaceOf h = some i) : ¬ s.Vacant :=
  not_vacant_of_getElem (State.ifaceOf_eq_some.1 hi) (by simp)

/-- A frame with a handle left holds a slot, and a slot held is not free. -/
theorem not_vacant_of_handle {hd : HandleCtx} {rest : List HandleCtx} (hs : s.SlotsHeld) (hrx : s.rx = some c)
    (hst : c.st = .handling (hd :: rest)) : ¬ s.Vacant := by
  have hfields := hs hd.slot (mem_trav_flatten.2 ⟨c, _, hrx, by rw [hst]; rfl, List.mem_cons_self⟩)
  cases hsl : s.slots[hd.slot]? with
  | none => simp [hsl] at hfields
  | some sl =>
    refine not_vacant_of_getElem hsl fun hfree => ?_
    simp [hsl, Slot.fields, hfree] at hfields

/-- With no slot bound and no grace period awaited every slot is free. -/
theorem vacant_of_unbound (hunbound : s.boundSlots = []) (hgrace : s.GraceAwaited) (hawaited : s.host.awaited = none) :
    s.Vacant := by
  intro sl hsl
  obtain ⟨n, hn⟩ := List.mem_iff_getElem?.1 hsl
  obtain ⟨g, o⟩ := sl
  cases o with
  | free => rfl
  | bound i =>
    have hmem : n ∈ s.boundSlots := State.mem_boundSlots.2 ⟨g, i, hn⟩
    rw [hunbound] at hmem
    cases hmem
  | unlinked i =>
    have hun : s.UnlinkedAt n := by simp [State.UnlinkedAt, hn, Slot.unlinked]
    rw [hun.awaited hgrace] at hawaited
    cases hawaited

/-! ### Steps that leave the bank and the HOST agent alone -/

theorem State.TeardownOrder.of_eq (hs : s.TeardownOrder) (hlife : t.life = s.life) (hhost : t.host = s.host)
    (hslots : t.slots = s.slots) (hdrained : s.life ≠ .live → s.Vacant → s.Drained → t.Drained) : t.TeardownOrder := by
  unfold State.TeardownOrder at *
  rw [hhost, hlife]
  simp only [State.Vacant, hslots] at *
  split
  case h_6 hst =>
    simp only [hst] at hs
    exact ⟨hs.1, hs.2.1, hdrained (by simp [hs.1]) hs.2.1 hs.2.2⟩
  case h_7 hst =>
    simp only [hst] at hs
    exact ⟨hs.1, hs.2.1, hdrained (by simp [hs.1]) hs.2.1 hs.2.2⟩
  all_goals
    next hst =>
    simpa only [hst] using hs

/-- What a step of another agent keeps, if it queues nothing once the bank is empty. -/
theorem State.Lifecycle.of_eq (hs : s.Lifecycle) (hheld : t.SlotsHeld) (hlife : t.life = s.life)
    (hcause : t.fatalCause = s.fatalCause) (hhost : t.host = s.host) (hslots : t.slots = s.slots)
    (hdrained : s.life ≠ .live → s.Vacant → s.Drained → t.Drained) : t.Lifecycle where
  held := hheld
  grace := by
    simp only [State.GraceAwaited, hslots, hhost]
    exact hs.grace
  order := hs.order.of_eq hlife hhost hslots hdrained
  released := by
    intro hreleased
    rw [hlife] at hreleased
    obtain ⟨hvacant, hdone⟩ := hs.released hreleased
    exact ⟨by simpa only [State.Vacant, hslots] using hvacant, hdrained (by simp [hreleased]) hvacant hdone⟩
  cause := by
    simp only [State.CauseAgrees, hlife, hcause]
    exact hs.cause

theorem State.Lifecycle.of_same (hs : s.Lifecycle) (hheld : t.SlotsHeld) (hlife : t.life = s.life)
    (hcause : t.fatalCause = s.fatalCause) (hhost : t.host = s.host) (hslots : t.slots = s.slots) (hwq : t.wq = s.wq)
    (hwork : t.work = s.work) : t.Lifecycle :=
  hs.of_eq hheld hlife hcause hhost hslots fun _ _ hdone => by simpa only [State.Drained, hwq, hwork] using hdone

theorem lifecycle_rx (e : Micro .rx s t) (hs : s.Lifecycle) : t.Lifecycle := by
  obtain ⟨-, rfl⟩ | ⟨c, hrx, heffect⟩ := e.rx_cases
  · exact hs
  refine hs.of_eq (slotsHeld_micro e hs.held) (by rw [e.rx_frame]) (by rw [e.rx_frame]) (by rw [e.rx_frame])
    (by rw [e.rx_frame]) fun _ hvacant hdone => ?_
  obtain hwq | ⟨x, hd, rest, hst, -⟩ := heffect.wq
  · exact ⟨hwq.trans hdone.1, by rw [e.rx_frame]; exact hdone.2⟩
  · exact absurd hvacant (not_vacant_of_handle hs.held hrx hst)

theorem lifecycle_work (e : Micro .work s t) (hs : s.Lifecycle) : t.Lifecycle := by
  refine hs.of_eq (slotsHeld_micro e hs.held) (by rw [e.work_frame]) (by rw [e.work_frame]) (by rw [e.work_frame])
    (by rw [e.work_frame]) fun _ _ hdone => ?_
  obtain ⟨hwq, hidle⟩ := hdone
  cases e.work_cases with
  | goes hwq' _ _ hidle' => exact ⟨hwq'.trans hwq, hidle' hidle⟩
  | takes _ hitem => simp [hwq] at hitem
  | reports hreport => simp [hidle] at hreport

/-! ### Writing a field of a bound interface -/

theorem unlinkedAt_setIface (hn : (s.setIface h j).UnlinkedAt n) : s.UnlinkedAt n := by
  obtain ⟨-, hbound⟩ | ⟨-, hn⟩ := unlinkedAt_setSlot hn
  · cases hbound
  · exact hn

theorem slotsHeld_setIface (hs : s.SlotsHeld) (h : Handle) (j : Iface) : (s.setIface h j).SlotsHeld :=
  slotsHeld_of_fields hs rfl fun _ _ hfields => isSome_fieldsAt_set hfields fun _ => rfl

/-- With an interface bound, no stage says that the bank is empty. -/
theorem lifecycle_setIface (hs : s.Lifecycle) (hi : s.ifaceOf h = some i) (j : Iface) : (s.setIface h j).Lifecycle where
  held := slotsHeld_setIface hs.held h j
  grace n _ hn := (unlinkedAt_setIface hn).awaited hs.grace
  order := by
    have horder := hs.order
    have hnot := not_vacant_of_ifaceOf hi
    unfold State.TeardownOrder at *
    simp only [State.setIface_eq_setSlot, State.setSlot_host, State.setSlot_life]
    split
    case h_5 hst =>
      simp only [hst] at horder
      exact absurd horder.2 hnot
    case h_6 hst =>
      simp only [hst] at horder
      exact absurd horder.2.1 hnot
    case h_7 hst =>
      simp only [hst] at horder
      exact absurd horder.2.1 hnot
    all_goals
      next hst =>
      simpa only [hst] using horder
  released hreleased := absurd (hs.released hreleased).1 (not_vacant_of_ifaceOf hi)
  cause := hs.cause

theorem lifecycle_tx (e : Micro (.tx k) s t) (hs : s.Lifecycle) : t.Lifecycle := by
  have hheld := slotsHeld_micro e hs.held
  cases e.tx_cases with
  | waits => exact hs
  | numbered _ _ hi => exact (lifecycle_setIface hs hi _).of_same hheld rfl rfl rfl rfl rfl rfl
  | built => exact hs.of_same hheld rfl rfl rfl rfl rfl rfl
  | queued _ _ hlive => exact hs.of_eq hheld rfl rfl rfl rfl fun hnot => absurd hlive hnot
  | ended => exact hs.of_same hheld rfl rfl rfl rfl rfl rfl

/-! ### The HOST agent -/

/-- Where the HOST agent awaits a grace period, no other slot is unlinked. -/
theorem eq_of_unlinkedAt (hs : s.GraceAwaited) (hawaited : s.host.awaited = some m) (hn : s.UnlinkedAt n) : n = m :=
  Option.some.inj ((hn.awaited hs).symm.trans hawaited)

theorem not_unlinkedAt (hs : s.GraceAwaited) (hawaited : s.host.awaited = none) (n : Nat) : ¬ s.UnlinkedAt n :=
  fun hn => absurd (hn.awaited hs) (by simp [hawaited])

theorem lifecycle_host (e : Micro .host s t) (hs : s.Lifecycle) : t.Lifecycle := by
  have hheld := slotsHeld_micro e hs.held
  have horder := hs.order
  have hcause := hs.cause
  unfold State.TeardownOrder at horder
  cases e.host_cases with
  | waits => exact hs
  | removed hhost =>
    simp only [hhost] at horder
    rw [State.vacate_frame] at hheld ⊢
    refine ⟨hheld, fun n _ hn => ?_, ?_, ?_, hcause⟩
    · obtain ⟨hne, hn⟩ := unlinkedAt_vacate (s := s) hn
      exact absurd (eq_of_unlinkedAt hs.grace (by rw [hhost]; rfl) hn).symm hne
    · exact fun h : s.life = .draining => by simp [horder] at h
    · exact fun h : s.life = .released => by simp [horder] at h
  | drains hhost hunbound =>
    simp only [hhost] at horder
    refine ⟨hheld, fun n _ hn => ?_, ?_, ?_, hcause⟩
    · exact absurd hn (not_unlinkedAt hs.grace (by rw [hhost]; rfl) n)
    · exact ⟨horder, vacant_of_unbound (s := s) hunbound hs.grace (by rw [hhost]; rfl)⟩
    · exact fun h : s.life = .released => by simp [horder] at h
  | @unlinks k m hhost =>
    simp only [hhost] at horder
    rw [State.unlink_frame] at hheld ⊢
    refine ⟨hheld, fun n _ hn => ?_, horder, ?_, hcause⟩
    · obtain rfl | hn := unlinkedAt_unlink (s := s) hn
      · rfl
      · exact absurd hn (not_unlinkedAt hs.grace (by rw [hhost]; rfl) n)
    · exact fun h : s.life = .released => by simp [horder] at h
  | unlinked hhost =>
    simp only [hhost] at horder
    rw [State.vacate_frame] at hheld ⊢
    refine ⟨hheld, fun n _ hn => ?_, horder, ?_, hcause⟩
    · obtain ⟨hne, hn⟩ := unlinkedAt_vacate (s := s) hn
      exact absurd (eq_of_unlinkedAt hs.grace (by rw [hhost]; rfl) hn).symm hne
    · exact fun h : s.life = .released => by simp [horder] at h
  | settles hhost hdone =>
    simp only [hhost] at horder
    refine ⟨hheld, fun n _ hn => ?_, ⟨horder.1, horder.2, hdone⟩, ?_, hcause⟩
    · exact absurd hn (not_unlinkedAt hs.grace (by rw [hhost]; rfl) n)
    · exact fun h : s.life = .released => by simp [horder] at h
  | releases hhost =>
    simp only [hhost] at horder
    refine ⟨hheld, fun n _ hn => ?_, horder, ?_, hcause⟩
    · exact absurd hn (not_unlinkedAt hs.grace (by rw [hhost]; rfl) n)
    · exact fun h : s.life = .released => by simp [horder] at h
  | released hhost =>
    simp only [hhost] at horder
    obtain ⟨hlife, hvacant, hdone⟩ := horder
    refine ⟨hheld, fun n _ hn => ?_, ?_, fun _ => ⟨hvacant, hdone⟩, ?_⟩
    · exact absurd hn (not_unlinkedAt hs.grace (by rw [hhost]; rfl) n)
    · exact fun h : Life.released = .draining => by cases h
    · refine ⟨⟨fun h : Life.released = .fatal => (by cases h), fun h => ?_⟩, hcause.2⟩
      have := hcause.1.2 h
      simp [hlife] at this

theorem lifecycle_micro {a : Agent} (e : Micro a s t) (hs : s.Lifecycle) : t.Lifecycle := by
  cases a with
  | host => exact lifecycle_host e hs
  | rx => exact lifecycle_rx e hs
  | tx k => exact lifecycle_tx e hs
  | work => exact lifecycle_work e hs

/-! ### The commands -/

/-- R212: the creation step writes one slot and consumes draws. -/
theorem State.create_eq (s : State) (n : Nat) (type : IfType) (hw : LongAddr) : s.create n type hw = { s with
    slots := s.slots.set n
      ⟨s.genOf n, .bound (Iface.created s.cfg type hw s.drawSeq.1 s.drawSeq.2.drawSeq.1)⟩
    seqs := s.drawSeq.2.drawSeq.2.seqs, drawn := s.drawSeq.2.drawSeq.2.drawn } := by
  unfold State.create State.setSlot
  rw [State.drawSeq_frame s.drawSeq.2, State.drawSeq_frame s]

/-- The cause stays right while the device neither is nor becomes `Fatal`. -/
theorem causeAgrees_of_alive (hs : s.CauseAgrees) (hs' : s.life ≠ .fatal) (ht : t.life ≠ .fatal)
    (hcause : t.fatalCause = s.fatalCause) : t.CauseAgrees := by
  refine ⟨iff_of_false ht ?_, hcause ▸ hs.2⟩
  rw [hcause]
  exact fun h => hs' (hs.1.2 h)

theorem lifecycle_create {type : IfType} {hw : LongAddr} (hidle : s.host = .idle) (hlive : s.life = .live)
    (hheld : (s.create n type hw).SlotsHeld) (hs : s.Lifecycle) : (s.create n type hw).Lifecycle := by
  have hawaited : s.host.awaited = none := by rw [hidle]; rfl
  rw [State.create_eq] at hheld ⊢
  refine ⟨hheld, fun m _ hm => ?_, ?_, ?_, hs.cause⟩
  · obtain ⟨-, hbound⟩ | ⟨-, hm⟩ := unlinkedAt_setSlot (s := s) hm
    · cases hbound
    · exact absurd hm (not_unlinkedAt hs.grace hawaited m)
  · have horder := hs.order
    unfold State.TeardownOrder at *
    simp only [hidle] at *
    exact horder
  · exact fun h : s.life = .released => by simp [hlive] at h

theorem lifecycle_writeReg {r : Reg} {v : Value} (hlive : s.life = .live) (hi : s.ifaceOf h = some i)
    (hs : s.Lifecycle) : (s.writeReg h i r v).Lifecycle := by
  have hset := lifecycle_setIface hs hi (i.write r v)
  unfold State.writeReg
  split
  · exact hset.of_eq hset.held rfl rfl rfl rfl fun hnot => absurd hlive hnot
  · exact hset

theorem lifecycle_start {a : Agent} (h : Starts s a u) (hidle : a = .host → s.host = .idle) (hs : s.Lifecycle) :
    u.Lifecycle := by
  have hheld := slotsHeld_start h hs.held
  have hawaited : a = .host → s.host.awaited = none := fun ha => by rw [hidle ha]; rfl
  have hgrace (ha : a = .host) (n : Nat) (P : Prop) (hn : s.UnlinkedAt n) : P :=
    absurd hn (not_unlinkedAt hs.grace (hawaited ha) n)
  cases h with
  | create n type hw hlive =>
    have hcreate := lifecycle_create (type := type) (hw := hw) (n := n) (hidle rfl) hlive hheld hs
    exact hcreate.of_same hheld rfl rfl rfl rfl rfl rfl
  | remove h i hlive =>
    rw [State.unlink_frame] at hheld ⊢
    refine ⟨hheld, fun n _ hn => ?_, hlive, ?_, hs.cause⟩
    · obtain rfl | hn := unlinkedAt_unlink (s := s) hn
      · rfl
      · exact hgrace rfl n _ hn
    · exact fun h : s.life = .released => by simp [hlive] at h
  | unregister hlive =>
    exact ⟨hheld, fun n _ hn => hgrace rfl n _ hn, rfl, fun h => (by cases h),
      causeAgrees_of_alive hs.cause (by simp [hlive]) (fun h => by cases h) rfl⟩
  | drain hlive hunbound =>
    exact ⟨hheld, fun n _ hn => hgrace rfl n _ hn,
      ⟨rfl, vacant_of_unbound (s := s) hunbound hs.grace (hawaited rfl)⟩, fun h => (by cases h),
      causeAgrees_of_alive hs.cause (by simp [hlive]) (fun h => by cases h) rfl⟩
  | fatal =>
    refine ⟨hheld, fun n _ hn => hgrace rfl n _ hn, ?_, fun h => (by cases h),
      iff_of_true rfl rfl, fun h => (by cases h)⟩
    unfold State.TeardownOrder
    simp [hidle]
  | write h i r v hlive hi =>
    exact (lifecycle_writeReg hlive hi hs).of_same hheld rfl rfl rfl rfl rfl rfl
  | receive => exact hs.of_same hheld rfl rfl rfl rfl rfl rfl
  | call => exact hs.of_same hheld rfl rfl rfl rfl rfl rfl

theorem lifecycle_resetWith (cfg : Config) : (State.resetWith cfg).Lifecycle := by
  have hreset {sl : Slot} (h : sl ∈ (State.resetWith cfg).slots) : sl = Slot.reset := List.eq_of_mem_replicate h
  refine ⟨fun n hn => (by cases hn), fun n _ hn => ?_, ?_, fun h => (by cases h),
    ⟨⟨fun h => (by cases h), fun h => (by cases h)⟩, fun h => (by cases h)⟩⟩
  · obtain ⟨sl, hsl, hun⟩ := Option.map_eq_some_iff.1 hn
    rw [hreset (List.mem_of_getElem? hsl)] at hun
    cases hun
  · exact fun h : Life.live = .draining => by cases h

theorem lifecycle_kept : Kept State.Lifecycle where
  quiet h hs := hs.of_same (slotsHeld_kept.quiet h hs.held) (by rw [h.1]) (by rw [h.1]) (by rw [h.1]) (by rw [h.1])
    (by rw [h.1]) (by rw [h.1])
  reset {s} _ := (lifecycle_resetWith s.cfg).of_same (fun n hn => (by cases hn)) rfl rfl rfl rfl rfl rfl
  micro := lifecycle_micro
  focus {s} j hs := by
    have hheld := slotsHeld_focus j hs.held
    rw [focusRx_frame] at hheld ⊢
    exact hs.of_same hheld rfl rfl rfl rfl rfl rfl
  start queue _ hidle h hs := lifecycle_start h hidle
    (hs.of_same (slotsHeld_of_eq hs.held rfl rfl) rfl rfl rfl rfl rfl rfl)
  frame _ hs := hs.of_same (slotsHeld_startRx _ _) rfl rfl rfl rfl rfl rfl

/-- Settles O55: every part of a step keeps it. -/
theorem lifecycleKept : Obligations.LifecycleKept := fun _ _ hs h => lifecycle_kept.step h hs

end Sys2Proof.Machine

/-! ## The work queue, the widths, and the frames in progress -/

namespace Sys2Proof.Machine

variable {s t u : State} {c c' : RxCtx} {h : Handle} {i : Iface} {n : Nat} {sl : Slot} {md : Md}

/-! ### The work queue (R26, R235) -/

/-- The queue keeps its capacity, and holds one update per handle. -/
def State.QueueDisciplined (s : State) : Prop := s.QueueBounded ∧ s.UpdatesOnce

theorem State.QueueDisciplined.of_sublist (hs : s.QueueDisciplined) (hwq : t.wq.Sublist s.wq) (hcfg : t.cfg = s.cfg) :
    t.QueueDisciplined := by
  refine ⟨?_, hs.2.sublist (hwq.filter _)⟩
  rw [State.QueueBounded, hcfg]
  exact hwq.length_le.trans hs.1

theorem State.QueueDisciplined.of_eq (hs : s.QueueDisciplined) (hwq : t.wq = s.wq) (hcfg : t.cfg = s.cfg) :
    t.QueueDisciplined :=
  hs.of_sublist (hwq ▸ .refl _) hcfg

theorem lt_wqDepth_of_not_full (hroom : s.wqFull = false) : s.wq.length < s.cfg.wqDepth := by
  simpa [State.wqFull] using hroom

/-- An item queued where there is room, and an update only where none of its handle waits. -/
theorem State.QueueDisciplined.push {w : WorkItem} (hs : s.QueueDisciplined) (hroom : s.wqFull = false)
    (hnew : w ∉ s.filterUpdates) (hwq : t.wq = s.wq ++ [w]) (hcfg : t.cfg = s.cfg) : t.QueueDisciplined := by
  have hlen := lt_wqDepth_of_not_full hroom
  refine ⟨?_, ?_⟩
  · rw [State.QueueBounded, hcfg, hwq, List.length_append, List.length_singleton]
    exact hlen
  · rw [State.UpdatesOnce, State.filterUpdates, hwq, List.filter_append, List.nodup_append]
    refine ⟨hs.2, (List.nodup_singleton w).sublist List.filter_sublist, ?_⟩
    rintro a ha b hb rfl
    obtain rfl := List.mem_singleton.1 (List.mem_filter.1 hb).1
    exact hnew ha

theorem xmit_not_mem_filterUpdates (x : Xmit) : WorkItem.xmit x ∉ s.filterUpdates := by
  simp [State.filterUpdates]

theorem queueDisciplined_micro {a : Agent} (e : Micro a s t) (hs : s.QueueDisciplined) : t.QueueDisciplined := by
  cases a with
  | host => exact hs.of_eq (by rw [e.host_frame]) (by rw [e.host_frame])
  | rx =>
    obtain ⟨-, rfl⟩ | ⟨c, -, heffect⟩ := e.rx_cases
    · exact hs
    have hcfg : t.cfg = s.cfg := by rw [e.rx_frame]
    obtain hwq | ⟨x, -, -, -, -, hroom, hwq⟩ := heffect.wq
    · exact hs.of_eq hwq hcfg
    · exact hs.push hroom (xmit_not_mem_filterUpdates x) hwq hcfg
  | tx k =>
    cases e.tx_cases with
    | waits => exact hs
    | numbered => exact hs.of_eq rfl rfl
    | built => exact hs.of_eq rfl rfl
    | queued _ _ _ hroom => exact hs.push hroom (xmit_not_mem_filterUpdates _) rfl rfl
    | ended => exact hs.of_eq rfl rfl
  | work =>
    have hcfg : t.cfg = s.cfg := by rw [e.work_frame]
    cases e.work_cases with
    | goes hwq => exact hs.of_eq hwq hcfg
    | takes _ _ hwq => exact hs.of_sublist (hwq ▸ List.eraseIdx_sublist _ _) hcfg
    | reports _ hwq => exact hs.of_eq hwq hcfg

/-- R234, R235: CFG_WRITE queues an update where it is needed, none waits, and there is room. -/
theorem queueDisciplined_writeReg {r : Reg} {v : Value}
    (hroom : ¬ (s.needsFilter r && !s.filterQueued h && s.wqFull) = true) (hs : s.QueueDisciplined) :
    (s.writeReg h i r v).QueueDisciplined := by
  unfold State.writeReg
  split
  · next hneeded =>
    have hfull : s.wqFull = false := by simpa [hneeded] using hroom
    have hnew : WorkItem.filterUpdate h ∉ s.filterUpdates := by
      have hqueued : WorkItem.filterUpdate h ∉ s.wq := by
        simpa [State.filterQueued] using (Bool.and_eq_true_iff.1 hneeded).2
      exact fun hmem => hqueued (List.mem_filter.1 hmem).1
    exact hs.push hfull hnew rfl rfl
  · exact hs.of_eq rfl rfl

theorem queueDisciplined_start {a : Agent} (e : Starts s a u) (hs : s.QueueDisciplined) : u.QueueDisciplined := by
  cases e with
  | create => exact hs.of_eq (by rw [State.create_eq]; rfl) (by rw [State.create_eq]; rfl)
  | remove => exact hs.of_eq (by rw [State.unlink_frame]; rfl) (by rw [State.unlink_frame]; rfl)
  | unregister => exact hs.of_eq rfl rfl
  | drain => exact hs.of_eq rfl rfl
  | fatal => exact hs.of_eq rfl rfl
  | write h i r v _ _ hroom => exact (queueDisciplined_writeReg hroom hs).of_eq rfl rfl
  | receive => exact hs.of_eq rfl rfl
  | call => exact hs.of_eq rfl rfl

theorem queueDisciplined_resetWith (cfg : Config) : (State.resetWith cfg).QueueDisciplined :=
  ⟨Nat.zero_le _, List.nodup_nil⟩

theorem queueDisciplined_kept : Kept State.QueueDisciplined where
  quiet h hs := hs.of_eq (by rw [h.1]) (by rw [h.1])
  reset {s} _ := (queueDisciplined_resetWith s.cfg).of_eq rfl rfl
  micro := queueDisciplined_micro
  focus j hs := hs.of_eq (by rw [focusRx_frame]; rfl) (by rw [focusRx_frame]; rfl)
  start queue _ _ h hs := queueDisciplined_start h (hs.of_eq rfl rfl)
  frame _ hs := hs.of_eq rfl rfl

/-! ### The widths (R5, R27, R30) -/

theorem withinWidths_of_eq (hs : s.WithinWidths) (hcfg : t.cfg = s.cfg) (hbad : t.cntBadcsum = s.cntBadcsum)
    (hmal : t.cntMalformed = s.cntMalformed) (hslots : t.slots = s.slots) : t.WithinWidths := by
  simpa only [State.WithinWidths, hcfg, hbad, hmal, hslots] using hs

/-- Writing a slot with a generation of the width. -/
theorem withinWidths_setSlot (hs : s.WithinWidths) (hgen : n < s.slots.length → sl.gen.toNat < 2 ^ s.cfg.genWidth) :
    (s.setSlot n sl).WithinWidths := by
  obtain ⟨hbad, hmal, hgens⟩ := hs
  refine ⟨hbad, hmal, fun x hx => ?_⟩
  by_cases hn : n < s.slots.length
  · obtain hx | rfl := List.mem_or_eq_of_mem_set hx
    · exact hgens x hx
    · exact hgen hn
  · rw [State.setSlot_slots, List.set_eq_of_length_le (by omega)] at hx
    exact hgens x hx

theorem withinWidths_unlink (hs : s.WithinWidths) (n : Nat) : (s.unlink n).WithinWidths := by
  unfold State.unlink
  split
  · next sl hsl =>
    refine withinWidths_setSlot hs fun _ => ?_
    unfold Slot.unlink
    split
    · exact nextGen_lt _ _
    · exact hs.2.2 _ (List.mem_of_getElem? hsl)
    · exact hs.2.2 _ (List.mem_of_getElem? hsl)
  · exact hs

theorem withinWidths_vacate (hs : s.WithinWidths) (n : Nat) : (s.vacate n).WithinWidths := by
  unfold State.vacate
  split
  · next sl hsl => exact withinWidths_setSlot hs fun _ => hs.2.2 sl (List.mem_of_getElem? hsl)
  · exact hs

theorem withinWidths_setIface (hs : s.WithinWidths) (hi : s.ifaceOf h = some i) (j : Iface) :
    (s.setIface h j).WithinWidths :=
  withinWidths_setSlot hs fun _ => hs.2.2 ⟨h.gen, .bound i⟩ (List.mem_of_getElem? (State.ifaceOf_eq_some.1 hi))

theorem withinWidths_create (hs : s.WithinWidths) (n : Nat) (type : IfType) (hw : LongAddr) :
    (s.create n type hw).WithinWidths := by
  have hset : (s.setSlot n
      ⟨s.genOf n, .bound (Iface.created s.cfg type hw s.drawSeq.1 s.drawSeq.2.drawSeq.1)⟩).WithinWidths := by
    refine withinWidths_setSlot hs fun hn => ?_
    rw [State.genOf, List.getElem?_eq_getElem hn]
    exact hs.2.2 s.slots[n] (List.getElem_mem hn)
  rw [State.create_eq]
  exact withinWidths_of_eq hset rfl rfl rfl rfl

theorem withinWidths_micro {a : Agent} (e : Micro a s t) (hs : s.WithinWidths) : t.WithinWidths := by
  cases a with
  | host =>
    cases e.host_cases with
    | waits => exact hs
    | removed => exact withinWidths_of_eq (withinWidths_vacate hs _) rfl rfl rfl rfl
    | drains => exact withinWidths_of_eq hs rfl rfl rfl rfl
    | unlinks => exact withinWidths_of_eq (withinWidths_unlink hs _) rfl rfl rfl rfl
    | unlinked => exact withinWidths_of_eq (withinWidths_vacate hs _) rfl rfl rfl rfl
    | settles => exact withinWidths_of_eq hs rfl rfl rfl rfl
    | releases => exact withinWidths_of_eq hs rfl rfl rfl rfl
    | released => exact withinWidths_of_eq hs rfl rfl rfl rfl
  | rx =>
    obtain ⟨-, rfl⟩ | ⟨c, -, heffect⟩ := e.rx_cases
    · exact hs
    have hcfg : t.cfg = s.cfg := by rw [e.rx_frame]
    have hslots : t.slots = s.slots := by rw [e.rx_frame]
    have hcount {m m' : Counter} (hm : m < 2 ^ s.cfg.cntWidth) (hm' : m' = m ∨ m' = nextCount s.cfg m) :
        m' < 2 ^ s.cfg.cntWidth := by
      obtain rfl | rfl := hm'
      · exact hm
      · exact nextCount_lt s.cfg m
    obtain ⟨hbad, hmal, hgens⟩ := hs
    rw [State.WithinWidths, hcfg, hslots]
    exact ⟨hcount hbad heffect.badcsum, hcount hmal heffect.malformed, hgens⟩
  | tx k =>
    cases e.tx_cases with
    | waits => exact hs
    | numbered _ _ hi => exact withinWidths_of_eq (withinWidths_setIface hs hi _) rfl rfl rfl rfl
    | built => exact withinWidths_of_eq hs rfl rfl rfl rfl
    | queued => exact withinWidths_of_eq hs rfl rfl rfl rfl
    | ended => exact withinWidths_of_eq hs rfl rfl rfl rfl
  | work =>
    exact withinWidths_of_eq hs (by rw [e.work_frame]) (by rw [e.work_frame]) (by rw [e.work_frame])
      (by rw [e.work_frame])

theorem withinWidths_start {a : Agent} (e : Starts s a u) (hs : s.WithinWidths) : u.WithinWidths := by
  cases e with
  | create => exact withinWidths_of_eq (withinWidths_create hs _ _ _) rfl rfl rfl rfl
  | remove => exact withinWidths_of_eq (withinWidths_unlink hs _) rfl rfl rfl rfl
  | unregister => exact withinWidths_of_eq hs rfl rfl rfl rfl
  | drain => exact withinWidths_of_eq hs rfl rfl rfl rfl
  | fatal => exact withinWidths_of_eq hs rfl rfl rfl rfl
  | write h i r v _ hi =>
    have hset := withinWidths_setIface hs hi (i.write r v)
    unfold State.writeReg
    split <;> exact withinWidths_of_eq hset rfl rfl rfl rfl
  | receive => exact withinWidths_of_eq hs rfl rfl rfl rfl
  | call => exact withinWidths_of_eq hs rfl rfl rfl rfl

theorem withinWidths_resetWith (cfg : Config) : (State.resetWith cfg).WithinWidths := by
  refine ⟨Nat.two_pow_pos _, Nat.two_pow_pos _, fun sl hsl => ?_⟩
  rw [List.eq_of_mem_replicate hsl]
  exact Nat.two_pow_pos _

theorem withinWidths_kept : Kept State.WithinWidths where
  quiet h hs := withinWidths_of_eq hs (by rw [h.1]) (by rw [h.1]) (by rw [h.1]) (by rw [h.1])
  reset {s} _ := withinWidths_of_eq (withinWidths_resetWith s.cfg) rfl rfl rfl rfl
  micro := withinWidths_micro
  focus j hs := by
    rw [focusRx_frame]
    exact withinWidths_of_eq hs rfl rfl rfl rfl
  start queue _ _ h hs := withinWidths_start h (withinWidths_of_eq hs rfl rfl rfl rfl)
  frame _ hs := withinWidths_of_eq hs rfl rfl rfl rfl

/-- Settles O56: every part of a step keeps the queue's discipline, and the widths. -/
theorem queueDisciplineKept : Obligations.QueueDisciplineKept := fun _ _ h =>
  ⟨fun hbounded honce => queueDisciplined_kept.step h ⟨hbounded, honce⟩, withinWidths_kept.step h⟩

end Sys2Proof.Machine

/-! ## The frame in progress: its slots, its headers, its lengths (R41, R60, R140, R262) -/

namespace Sys2Proof.Machine

variable {s t u : State} {c c' : RxCtx} {md : Md} {L : FcLayout} {buf : List Byte} {len cur : Nat}

/-- What holds of the frame in progress is kept by every step, once the steps of the RX agent and the choice of what comes
next keep it and it holds of a frame just taken. -/
theorem kept_of_rx {Q : RxCtx → Prop} (hto : ∀ {s : State} {c c' : RxCtx}, RxTo s c (some c') → Q c → Q c')
    (hfocus : ∀ {c : RxCtx} (j : Nat), Q c → Q { c with st := c.st.focus j })
    (hnew : ∀ (src : FrameSource) (bytes : List Byte), bytes.length ≤ 127 →
      Q ⟨src, bytes, bytes.length, 0, .checksumCheck, []⟩) :
    Kept fun s => ∀ c ∈ s.rx, Q c where
  quiet h hs c hc := hs c (by rwa [h.1] at hc)
  reset _ c hc := by cases hc
  micro {a s t} e hs := by
    cases a with
    | host => rwa [e.host_frame]
    | tx k => rwa [e.tx_frame]
    | work => rwa [e.work_frame]
    | rx =>
      obtain ⟨-, rfl⟩ | ⟨c, hrx, heffect⟩ := e.rx_cases
      · exact hs
      intro c' hc'
      have hto' := heffect.rx
      rw [Option.mem_def.1 hc'] at hto'
      exact hto hto' (hs c hrx)
  focus {s} j hs := by
    cases hrx : s.rx with
    | none => rwa [focusRx_of_none hrx]
    | some c =>
      rw [focusRx_of_some hrx]
      intro c' hc'
      cases hc'
      exact hfocus j (hs c hrx)
  start {s u} queue a _ e hs := by
    cases e with
    | create => rw [State.create_eq]; exact hs
    | remove => rw [State.unlink_frame]; exact hs
    | unregister => exact hs
    | drain => exact hs
    | fatal => exact hs
    | write => unfold State.writeReg; split <;> exact hs
    | receive bytes hshort =>
      intro c hc
      cases hc
      exact hnew _ bytes hshort
    | call => exact hs
  frame {s f} hshort _ c hc := by
    cases hc
    exact hnew _ f hshort

/-! ### No slot twice -/

theorem slotsOf_of_fanout {md : Md} {todo taken : List Nat} (hst : c.st = .fanout md todo taken) :
    c.slotsOf = todo ++ taken := by
  simp only [RxCtx.slotsOf, hst]

theorem slotsOf_of_handling {hs : List HandleCtx} (hst : c.st = .handling hs) :
    c.slotsOf = hs.map HandleCtx.slot ++ c.outcomes.map Prod.fst := by
  simp only [RxCtx.slotsOf, hst]

theorem RxTo.slotsOf_nodup (h : RxTo s c (some c')) (hc : c.slotsOf.Nodup) : c'.slotsOf.Nodup := by
  cases h with
  | checked => exact List.nodup_nil
  | stripped => exact List.nodup_nil
  | badChecksum => exact List.nodup_nil
  | decoded => simpa [RxCtx.slotsOf] using List.nodup_range
  | rejected => exact List.nodup_nil
  | visited hst visit =>
    rw [slotsOf_of_fanout hst] at hc
    rw [slotsOf_of_fanout rfl]
    obtain rfl | ⟨rfl, -⟩ := visit
    · exact hc.of_cons
    · rw [← List.append_assoc]
      exact (List.perm_append_singleton _ _).nodup_iff.2 hc
  | unmatched => exact List.nodup_nil
  | spread hst =>
    rw [slotsOf_of_fanout hst] at hc
    simpa [RxCtx.slotsOf] using hc
  | advanced hst slot =>
    rw [slotsOf_of_handling hst] at hc
    rw [slotsOf_of_handling rfl]
    simpa [slot] using hc
  | finished hst o =>
    rw [slotsOf_of_handling hst] at hc
    rw [slotsOf_of_handling rfl, List.map_append, ← List.append_assoc]
    exact (List.perm_append_singleton _ _).nodup_iff.2 hc
  | done => exact List.nodup_nil

theorem focus_slotsOf (c : RxCtx) (j : Nat) : ({ c with st := c.st.focus j } : RxCtx).slotsOf.Perm c.slotsOf := by
  unfold RxCtx.slotsOf
  cases hst : c.st with
  | fanout md todo taken =>
    cases todo with
    | nil => exact toBack_perm taken j
    | cons n rest => exact (toFront_perm (n :: rest) j).append_right taken
  | handling hs => exact ((toFront_perm hs j).map _).append_right _
  | _ => exact .refl _

theorem slotsOnce_kept : Kept State.SlotsOnce :=
  kept_of_rx (fun h => h.slotsOf_nodup) (fun j hc => (focus_slotsOf _ j).nodup_iff.2 hc) fun _ _ _ => List.nodup_nil

/-! ### Accepted headers -/

/-- The frame's metadata, and that of every copy, come from an accepted header. -/
def RxCtx.Accepted (c : RxCtx) : Prop :=
  (∀ md todo taken, c.st = .fanout md todo taken → md.WellShaped c.len) ∧
    ∀ hs, c.st = .handling hs → ∀ h ∈ hs, h.copy.md.WellShaped h.copy.len

theorem headersAccepted_iff : s.HeadersAccepted ↔ ∀ c ∈ s.rx, c.Accepted := by
  refine forall₂_congr fun c _ => ?_
  unfold RxCtx.Accepted
  cases hst : c.st <;> simp

/-- R133, R140: what DECODE_HDR answers is well shaped. -/
theorem wellShaped_of_decodeHdr (h : decodeHdr fcLayout buf len = .ok md) : md.WellShaped len := by
  obtain ⟨hfc, hlen, rfl⟩ := decodeHdr_eq_ok_headerAt.1 h
  have hbounds := wireLen_bounds (fcDam fcLayout (wireHalf buf 0)) (fcSam fcLayout (wireHalf buf 0))
    (fcIntrapan fcLayout (wireHalf buf 0))
  exact ⟨hfc, rfl, (fcFault_eq_none.1 hfc).1, hbounds.1, hbounds.2, hlen⟩

theorem accepted_of_other (hfanout : ∀ md todo taken, c.st ≠ .fanout md todo taken)
    (hhandling : ∀ hs, c.st ≠ .handling hs) : c.Accepted :=
  ⟨fun _ _ _ h => absurd h (hfanout _ _ _), fun _ h => absurd h (hhandling _)⟩

theorem handlesOf_copy {o : Copy} {taken : List Nat} {h : HandleCtx} (hh : h ∈ handlesOf o taken) : h.copy = o := by
  induction taken with
  | nil => cases hh
  | cons n rest ih =>
    cases rest with
    | nil =>
      obtain rfl := List.mem_singleton.1 hh
      rfl
    | cons m rest =>
      obtain rfl | hh := List.mem_cons.1 hh
      · rfl
      · exact ih hh

theorem RxTo.accepted (h : RxTo s c (some c')) (hc : c.Accepted) : c'.Accepted := by
  cases h with
  | checked => exact accepted_of_other (by simp) (by simp)
  | stripped => exact accepted_of_other (by simp) (by simp)
  | badChecksum => exact accepted_of_other (by simp) (by simp)
  | decoded _ hok =>
    refine ⟨fun md todo taken h => ?_, fun hs h => (by cases h)⟩
    cases h
    exact wellShaped_of_decodeHdr hok
  | rejected => exact accepted_of_other (by simp) (by simp)
  | visited hst =>
    refine ⟨fun md todo taken h => ?_, fun hs h => (by cases h)⟩
    cases h
    exact hc.1 _ _ _ hst
  | unmatched => exact accepted_of_other (by simp) (by simp)
  | spread hst =>
    refine ⟨fun md todo taken h => (by cases h), fun hs h hd hmem => ?_⟩
    cases h
    rw [handlesOf_copy hmem]
    exact hc.1 _ _ _ hst
  | advanced hst _ copy =>
    refine ⟨fun md todo taken h => (by cases h), fun hs h hd hmem => ?_⟩
    cases h
    obtain rfl | hmem := List.mem_cons.1 hmem
    · obtain ⟨bytes, scope, hcopy⟩ := copy
      rw [hcopy]
      exact hc.2 _ hst _ List.mem_cons_self
    · exact hc.2 _ hst hd (List.mem_cons_of_mem _ hmem)
  | finished hst =>
    refine ⟨fun md todo taken h => (by cases h), fun hs h hd hmem => ?_⟩
    cases h
    exact hc.2 _ hst hd (List.mem_cons_of_mem _ hmem)
  | done => exact accepted_of_other (by simp) (by simp)

theorem accepted_focus (j : Nat) (hc : c.Accepted) : ({ c with st := c.st.focus j } : RxCtx).Accepted := by
  cases hst : c.st with
  | fanout md todo taken =>
    refine ⟨fun md' todo' taken' h => ?_, fun hs h => ?_⟩
    · cases todo with
      | nil =>
        cases h
        exact hc.1 _ _ _ hst
      | cons n rest =>
        cases h
        exact hc.1 _ _ _ hst
    · cases todo <;> cases h
  | handling hs =>
    refine ⟨fun md' todo' taken' h => (by cases h), fun hs' h hd hmem => ?_⟩
    cases h
    exact hc.2 _ hst hd ((toFront_perm hs j).subset hmem)
  | _ => exact accepted_of_other (by simp [RxState.focus]) (by simp [RxState.focus])

theorem accepted_kept : Kept fun s => ∀ c ∈ s.rx, RxCtx.Accepted c :=
  kept_of_rx RxTo.accepted accepted_focus fun _ _ _ => accepted_of_other (by simp) (by simp)

/-! ### Lengths -/

/-- R138: a field that does not fit leaves the cursor within the declared length. -/
theorem readAddress_error_cursor {mode : BitVec 2} {pan : Half} {e : HdrError} {n : Nat} (hcur : cur ≤ len)
    (h : readAddress buf len cur mode pan = .error (e, n)) : n ≤ len := by
  unfold readAddress at h
  split at h
  all_goals
    split at h
    · cases h
    · cases h
      exact hcur

theorem readPanAddress_error_cursor {mode : BitVec 2} {e : HdrError} {n : Nat} (hcur : cur ≤ len)
    (h : readPanAddress buf len cur mode = .error (e, n)) : n ≤ len := by
  unfold readPanAddress at h
  split at h
  · next hpan => exact readAddress_error_cursor (readHalf_eq_some.1 hpan).1 h
  · cases h
    exact hcur

theorem readDst_error_cursor {fc : Half} {e : HdrError} {n : Nat} (hcur : cur ≤ len)
    (h : readDst L buf len cur fc = .error (e, n)) : n ≤ len := by
  unfold readDst at h
  split at h
  · cases h
  · exact readPanAddress_error_cursor hcur h

theorem readSrc_error_cursor {fc : Half} {dst : Address} {e : HdrError} {n : Nat} (hcur : cur ≤ len)
    (h : readSrc L buf len cur fc dst = .error (e, n)) : n ≤ len := by
  unfold readSrc at h
  split at h
  · cases h
  · split at h
    · exact readAddress_error_cursor hcur h
    · cases h
      exact hcur
    · exact readPanAddress_error_cursor hcur h

/-- R41, R140: where DECODE_HDR fails, its cursor is within the declared length. -/
theorem decodeHdr_error_cursor {e : HdrError} {n : Nat} (h : decodeHdr L buf len = .error (e, n)) : n ≤ len := by
  unfold decodeHdr at h
  split at h
  · cases h
    exact Nat.zero_le _
  next hlen =>
    have hmin : 3 ≤ len := by simpa [hdrMin] using hlen
    dsimp only at h
    split at h
    · cases h
      exact hmin
    · split at h
      · next hdst =>
        cases h
        exact readDst_error_cursor hmin hdst
      · next hdst =>
        split at h
        · next hsrc =>
          cases h
          exact readSrc_error_cursor ((readDst_eq_ok hmin).1 hdst).2.1 hsrc
        · cases h

/-- The frame lies within 127 bytes, its declared length within them, its cursor within that. -/
abbrev RxCtx.Bounded (c : RxCtx) : Prop :=
  (c.st = .checksumCheck → c.cur = 0) ∧ c.cur ≤ c.len ∧ c.len ≤ c.buf.length ∧ c.buf.length ≤ 127

theorem RxTo.bounded (h : RxTo s c (some c')) (hc : c.Bounded) : c'.Bounded := by
  obtain ⟨hzero, hcur, hlen, hmax⟩ := hc
  cases h with
  | stripped hst =>
    refine ⟨fun h => (by cases h), ?_, (Nat.sub_le _ _).trans hlen, hmax⟩
    dsimp only
    rw [hzero hst]
    exact Nat.zero_le _
  | decoded _ hok => exact ⟨fun h => (by cases h), (wellShaped_of_decodeHdr hok).2.2.2.2.2, hlen, hmax⟩
  | rejected _ herror => exact ⟨fun h => (by cases h), decodeHdr_error_cursor herror, hlen, hmax⟩
  | checked => exact ⟨fun h => (by cases h), hcur, hlen, hmax⟩
  | badChecksum => exact ⟨fun h => (by cases h), hcur, hlen, hmax⟩
  | visited => exact ⟨fun h => (by cases h), hcur, hlen, hmax⟩
  | unmatched => exact ⟨fun h => (by cases h), hcur, hlen, hmax⟩
  | spread => exact ⟨fun h => (by cases h), hcur, hlen, hmax⟩
  | advanced => exact ⟨fun h => (by cases h), hcur, hlen, hmax⟩
  | finished => exact ⟨fun h => (by cases h), hcur, hlen, hmax⟩
  | done => exact ⟨fun h => (by cases h), hcur, hlen, hmax⟩

theorem focus_eq_checksumCheck {st : RxState} {j : Nat} (h : st.focus j = .checksumCheck) : st = .checksumCheck := by
  cases st with
  | fanout md todo taken => cases todo <;> cases h
  | checksumCheck => rfl
  | _ => cases h

theorem frameBounded_kept : Kept State.FrameBounded :=
  kept_of_rx (fun h => h.bounded) (fun _ ⟨hzero, hrest⟩ => ⟨fun h => hzero (focus_eq_checksumCheck h), hrest⟩)
    fun _ _ hshort => ⟨fun _ => rfl, Nat.zero_le _, le_rfl, hshort⟩

/-- Settles O57: every atomic step of the RX agent keeps what is said of the frame in progress. -/
theorem framesWellFormedKept : Obligations.FramesWellFormedKept := fun _ _ h =>
  ⟨fun honce haccepted => ⟨slotsOnce_kept.step h honce,
    headersAccepted_iff.2 (accepted_kept.step h (headersAccepted_iff.1 haccepted))⟩, frameBounded_kept.step h⟩

/-- Settles O59: after reset nothing is in progress, and every slot is free with generation 0. -/
theorem invariantsAtReset : Obligations.InvariantsAtReset := by
  refine ⟨fun cfg _ => ?_, by decide, rfl, rfl⟩
  have hqueue := queueDisciplined_resetWith cfg
  exact ⟨(lifecycle_resetWith cfg).held, lifecycle_resetWith cfg, hqueue.1, hqueue.2, withinWidths_resetWith cfg,
    fun c hc => (by cases hc), fun c hc => (by cases hc), fun c hc => (by cases hc),
    ⟨List.nodup_nil, fun c hc => (by cases hc), .refl _⟩, List.length_replicate⟩

end Sys2Proof.Machine

/-! ## What every step leaves unchanged: `Fatal`, the grace period, and who owns what -/

namespace Sys2Proof.Machine

variable {s t u : State} {a : Agent} {m : Move} {k n : Nat} {i j : Iface} {g : Byte}

/-! ### Runs -/

theorem run_host_frame (h : Agent.host.Run s t) : s.HostFrame t :=
  h.keeps (P := s.HostFrame) (fun e h => h.trans e.host_frame) rfl

theorem run_tx_frame (h : (Agent.tx k).Run s t) : s.TxFrame t :=
  h.keeps (P := s.TxFrame) (fun e h => h.trans e.tx_frame) rfl

/-- R211, R227, R229: a command that is accepted finds the device `Live` or `Draining`. -/
theorem Starts.running (h : Starts s a u) : s.life = .live ∨ s.life = .draining := by
  cases h with
  | create _ _ _ hlive => exact .inl hlive
  | remove _ _ hlive => exact .inl hlive
  | unregister hlive => exact .inl hlive
  | drain hlive => exact .inl hlive
  | fatal hlive => exact .inl hlive
  | write _ _ _ _ hlive => exact .inl hlive
  | receive _ _ hrun => exact State.running_eq_true.1 hrun
  | call _ _ _ hlive => exact .inl hlive

/-! ### `Fatal` and `Released` (R229) -/

theorem Micro.released (h : Micro a s t) : s.life = .released → t.life = .released ∧ t.fatalCause = s.fatalCause := by
  intro hreleased
  cases a with
  | rx => rw [h.rx_frame]; exact ⟨hreleased, rfl⟩
  | tx k => rw [h.tx_frame]; exact ⟨hreleased, rfl⟩
  | work => rw [h.work_frame]; exact ⟨hreleased, rfl⟩
  | host =>
    refine ⟨?_, by rw [h.host_frame]⟩
    cases h.host_cases with
    | removed => rw [State.vacate_frame]; exact hreleased
    | unlinks => rw [State.unlink_frame]; exact hreleased
    | unlinked => rw [State.vacate_frame]; exact hreleased
    | released => rfl
    | _ => exact hreleased

theorem run_released (h : a.Run s t) (hs : s.life = .released) : t.life = .released ∧ t.fatalCause = s.fatalCause :=
  h.keeps (P := fun t => t.life = .released ∧ t.fatalCause = s.fatalCause)
    (fun e h => ⟨(e.released h.1).1, (e.released h.1).2.trans h.2⟩) ⟨hs, rfl⟩

theorem State.Quiet.trans (h : s.Quiet t) (g : t.Quiet u) : s.Quiet u :=
  ⟨by rw [g.1, h.1], h.2.trans g.2⟩

/-- R229: in `Fatal` a move is quiet. -/
theorem Performed.fatal (h : Performed s m t) (hreset : m ≠ .reset) (hfatal : s.life = .fatal) : s.Quiet t := by
  cases h with
  | quiet h => exact h
  | reset => exact absurd rfl hreset
  | host halive => exact absurd hfatal halive
  | rx halive => exact absurd hfatal halive
  | tx halive => exact absurd hfatal halive
  | work halive => exact absurd hfatal halive
  | command _ _ _ hstart => exact absurd hstart.running (by simp [State.taken, hfatal])
  | frame hrun => simp [State.running, hfatal] at hrun

theorem Performed.released (h : Performed s m t) (hreset : m ≠ .reset) (hs : s.life = .released) :
    t.life = .released ∧ t.fatalCause = s.fatalCause := by
  cases h with
  | quiet h => rw [h.1]; exact ⟨hs, rfl⟩
  | reset => exact absurd rfl hreset
  | host _ hrun => exact run_released hrun hs
  | @rx j _ _ hrun =>
    have := run_released hrun (by rw [focusRx_frame]; exact hs)
    rwa [focusRx_frame] at this
  | tx _ hrun => exact run_released hrun hs
  | work _ hrun => exact run_released hrun hs
  | command _ _ _ hstart => exact absurd hstart.running (by simp [State.taken, hs])
  | frame hrun => simp [State.running, hs] at hrun

/-- Settles O30: in `Fatal` every move but the reset is quiet, and no run leaves `Released`. -/
theorem fatalFrozen : Obligations.FatalFrozen := by
  intro s t h hreset
  obtain ⟨m, sched, burst, drawn, hturn, hperf⟩ | ⟨-, hquiet⟩ := step_cases h
  · have hm : m ≠ .reset := fun h => hreset (h ▸ hturn)
    refine ⟨fun hfatal => ?_, fun hreleased => hperf.released hm hreleased⟩
    have hq : s.Quiet (s.rescheduled sched burst drawn) := ⟨rfl, le_rfl⟩
    exact (hq.trans (hperf.fatal hm hfatal)).1
  · exact ⟨fun _ => hquiet.1, fun hreleased => by rw [hquiet.1]; exact ⟨hreleased, rfl⟩⟩

/-! ### The grace period (R221, R222) -/

/-- The HOST agent awaits the grace period of slot `n`, which keeps its last field values. -/
def State.Awaits (s : State) (stage : HostStage) (n : Nat) (g : Byte) (i : Iface) : Prop :=
  s.host = stage ∧ s.slots[n]? = some ⟨g, .unlinked i⟩

/-- No agent but HOST ends the wait: a TX agent writes bound slots only. -/
theorem Micro.awaits {stage : HostStage} (h : Micro a s t) (ha : a ≠ .host) :
    s.Awaits stage n g i → t.Awaits stage n g i := by
  rintro ⟨hhost, hslot⟩
  cases a with
  | host => exact absurd rfl ha
  | rx => rw [h.rx_frame]; exact ⟨hhost, hslot⟩
  | work => rw [h.work_frame]; exact ⟨hhost, hslot⟩
  | tx k =>
    refine ⟨by rw [h.tx_frame]; exact hhost, ?_⟩
    cases h.tx_cases with
    | @numbered c i' _ _ hi =>
      have hne : c.h.slot.toNat ≠ n := by
        rintro rfl
        rw [State.ifaceOf_eq_some.1 hi] at hslot
        cases hslot
      exact (List.getElem?_set_ne hne).trans hslot
    | _ => exact hslot

/-- R222: while a traversal holds the slot, the HOST agent's step does nothing. -/
theorem Micro.awaits_held {stage : HostStage} (hstage : stage = .removing k n ∨ stage = .unlinking k n)
    (h : Micro .host s t) : s.Awaits stage n g i ∧ s.holds n = true → t.Awaits stage n g i ∧ t.holds n = true := by
  rintro ⟨⟨hhost, hslot⟩, hheld⟩
  cases h.host_cases with
  | waits => exact ⟨⟨hhost, hslot⟩, hheld⟩
  | removed hat hunheld =>
    obtain rfl | rfl := hstage
    · cases hat.symm.trans hhost
      simp [hheld] at hunheld
    · cases hat.symm.trans hhost
  | unlinked hat hunheld =>
    obtain rfl | rfl := hstage
    · cases hat.symm.trans hhost
    · cases hat.symm.trans hhost
      simp [hheld] at hunheld
  | drains hat => obtain rfl | rfl := hstage <;> cases hat.symm.trans hhost
  | unlinks hat => obtain rfl | rfl := hstage <;> cases hat.symm.trans hhost
  | settles hat => obtain rfl | rfl := hstage <;> cases hat.symm.trans hhost
  | releases hat => obtain rfl | rfl := hstage <;> cases hat.symm.trans hhost
  | released hat => obtain rfl | rfl := hstage <;> cases hat.symm.trans hhost

theorem run_awaits {stage : HostStage} (h : a.Run s t) (ha : a ≠ .host) (hs : s.Awaits stage n g i) :
    t.Awaits stage n g i :=
  h.keeps (P := fun t => t.Awaits stage n g i) (fun e => e.awaits ha) hs

theorem Performed.awaits {stage : HostStage} (hstage : stage = .removing k n ∨ stage = .unlinking k n)
    (h : Performed s m t) (hreset : m ≠ .reset) (hs : s.Awaits stage n g i) (hheld : s.holds n = true) :
    t.Awaits stage n g i := by
  cases h with
  | quiet h => rw [h.1]; exact hs
  | reset => exact absurd rfl hreset
  | host _ hrun => exact (hrun.keeps (Micro.awaits_held hstage) ⟨hs, hheld⟩).1
  | rx _ hrun => exact run_awaits hrun (by simp) (by rw [focusRx_frame]; exact hs)
  | tx _ hrun => exact run_awaits hrun (by simp) hs
  | work _ hrun => exact run_awaits hrun (by simp) hs
  | @command bs queue a u _ hhead haddressed hready hstart hrun =>
    have ha : a ≠ .host := by
      rintro rfl
      have hidle := host_idle_of_cmdReady hready hhead (Option.some.inj haddressed).symm
      obtain rfl | rfl := hstage <;> cases hidle.symm.trans hs.1
    refine run_awaits hrun ha ?_
    cases hstart with
    | receive => exact hs
    | call => exact hs
    | _ => exact absurd rfl ha
  | frame _ _ hrun => exact run_awaits hrun (by simp) hs

/-- Settles O24: no run of another agent ends the wait, and HOST's own step does nothing while the slot is held. -/
theorem gracePeriodHolds : Obligations.GracePeriodHolds := by
  intro s t k n g i hhost hheld hslot hreset h
  have hs : s.Awaits s.host n g i := ⟨rfl, hslot⟩
  obtain ⟨m, sched, burst, drawn, hturn, hperf⟩ | ⟨-, hquiet⟩ := step_cases h
  · exact hperf.awaits hhost (fun h => hreset (h ▸ hturn)) hs hheld
  · rw [hquiet.1]
    exact hs

end Sys2Proof.Machine

/-! ## The codec's refusals, and what the checksum determines

DECODE_HDR reports the first check that applies; ENCODE_HDR refuses in the order of R146 and R147. The checksum's register
is linear, and a byte leaves a register below 256 only when it equals the register's low byte, which makes the checksum of
a byte sequence the only two bytes with residue 0. -/

namespace Sys2Proof.Machine

variable {L : FcLayout} {buf bs : List Byte} {len n : Nat} {s : State} {c d : Half} {x y : Byte}

/-! ### DECODE_HDR -/

/-- R141: a check of the frame control word that fails is the error, the cursor after the fixed fields. -/
theorem decodeHdr_of_fcFault {e : HdrError} (hlen : 3 ≤ len) (hfault : fcFault L (wireHalf buf 0) = some e) :
    decodeHdr L buf len = .error (e, 3) := by
  have hmin : ¬ len < hdrMin := Nat.not_lt.2 hlen
  unfold wireHalf at hfault
  simp only [decodeHdr, if_neg hmin, hfault]

/-- Settles O10: the branches of `fcFault`, between the length's two checks. -/
theorem headerCheckOrder : Obligations.HeaderCheckOrder := by
  intro buf len fc sec badMode badAck badCombo need
  have haccepted (hsec : ¬ sec) (hmode : ¬ badMode) (hack : ¬ badAck) (hcombo : ¬ badCombo) :
      fcFault fcLayout (wireHalf buf 0) = none :=
    fcFault_eq_none.2 ⟨Bool.eq_false_iff.2 hsec, hmode, hack, hcombo⟩
  refine ⟨fun hlen => ⟨_, decodeHdr_of_lt_three hlen⟩, fun hlen hsec => ⟨_, decodeHdr_of_fcFault hlen (if_pos hsec)⟩,
    fun hlen hsec hmode => ⟨_, decodeHdr_of_fcFault hlen ((if_neg hsec).trans (if_pos hmode))⟩,
    fun hlen hsec hmode hack =>
      ⟨_, decodeHdr_of_fcFault hlen ((if_neg hsec).trans ((if_neg hmode).trans (if_pos hack)))⟩,
    fun hlen hsec hmode hack hcombo =>
      ⟨_, decodeHdr_of_fcFault hlen ((if_neg hsec).trans ((if_neg hmode).trans ((if_neg hack).trans (if_pos hcombo))))⟩,
    fun hlen hsec hmode hack hcombo hshort => ?_, fun hlen hsec hmode hack hcombo hneed => ?_⟩
  · exact decodeHdr_of_lt_hdrLen hlen (haccepted hsec hmode hack hcombo) hshort
  · exact ⟨_, decodeHdr_eq_ok_headerAt.2 ⟨haccepted hsec hmode hack hcombo, hneed, rfl⟩⟩

/-- Settles O12: the command's branches, and the code and detail of each error. -/
theorem decodeHdrAnswers : Obligations.DecodeHdrAnswers := by
  intro bytes s hrun
  refine ⟨fun md hok => ?_, fun e c code detail herr hcode => ?_⟩
  · rw [exec_decodeHdr hrun, hok]
    rfl
  · have hbytes : (Status.ofHdr e).bytes = [code, detail] := by
      simp only [List.mem_cons, List.not_mem_nil, or_false, Prod.mk.injEq] at hcode
      obtain ⟨rfl, rfl, rfl⟩ | ⟨rfl, rfl, rfl⟩ | ⟨rfl, rfl, rfl⟩ | ⟨rfl, rfl, rfl⟩ | ⟨rfl, rfl, rfl⟩ | ⟨rfl, rfl, rfl⟩ :=
        hcode <;> rfl
    rw [exec_decodeHdr hrun, herr, State.replied, ← hbytes]
    rfl

/-! ### The refusals ENCODE_HDR and TX_FRAME share -/

section
variable {type : Byte} {sec : Bool} {dst : Address}

theorem frameRefusal_no_destination (h : dst.mode = .none) : frameRefusal type sec dst = some .noDestination := if_pos h

theorem frameRefusal_security (h : dst.mode ≠ .none) (hsec : sec = true) :
    frameRefusal type sec dst = some .unsupportedFeature := (if_neg h).trans (if_pos hsec)

theorem frameRefusal_ack (h : dst.mode ≠ .none) (hsec : sec = false) (htype : type = 2#8) :
    frameRefusal type sec dst = some .encodeAckShape :=
  (if_neg h).trans ((if_neg (ne_true_of_eq_false hsec)).trans (if_pos htype))

theorem frameRefusal_bad_type (h : dst.mode ≠ .none) (hsec : sec = false) (htype : 4 ≤ type.toNat) :
    frameRefusal type sec dst = some .encodeBadType := by
  have hack : type ≠ 2#8 := by
    rintro rfl
    exact absurd htype (by decide)
  exact (if_neg h).trans ((if_neg (ne_true_of_eq_false hsec)).trans ((if_neg hack).trans (if_pos htype)))

/-- R146, R301: a destination, no security and type Beacon, Data or MacCommand are not refused. -/
theorem frameRefusal_accepted (h : dst.mode ≠ .none) (hsec : sec = false) (htype : type = 0#8 ∨ type = 1#8 ∨ type = 3#8) :
    frameRefusal type sec dst = none := by
  rw [frameRefusal_eq_none]
  obtain rfl | rfl | rfl := htype <;> exact ⟨h, hsec, by decide, by decide⟩

end

/-- Settles O15: the command answers the first refusal of the operation. -/
theorem encodeHdrRefusals : Obligations.EncodeHdrRefusals := by
  intro h type sec ackreq seq dst src s hlive hok
  obtain ⟨i, hi⟩ := State.handleOk_iff.1 hok
  have hrefused {e : Status} (he : frameRefusal type sec dst = some e) :
      exec (.encodeHdr h type sec ackreq seq dst src) s = .next (s.refuse e) := exec_encodeHdr_refused hlive hi he
  exact ⟨fun hdst => hrefused (frameRefusal_no_destination hdst), fun hdst hsec => hrefused (frameRefusal_security hdst hsec),
    fun hdst hsec htype => hrefused (frameRefusal_ack hdst hsec htype),
    fun hdst hsec htype => hrefused (frameRefusal_bad_type hdst hsec htype)⟩

/-! ### The bytes the checksum's register accepts -/

/-- R170: the bit shifted out enters at bit 15. -/
theorem crcShift_getLsbD_fifteen (c : Half) : (crcShift c).getLsbD 15 = c.getLsbD 0 := by
  unfold crcShift
  split
  next h => simp [h]
  next h => simpa using h

/-- A register whose upper bits are 0 after some shifts had no bit to shift out. -/
theorem low_zero_of_crcShift_iterate (hn : n ≤ 16) (h : ∀ i, 16 - n ≤ i → (crcShift^[n] c).getLsbD i = false) :
    ∀ i < n, c.getLsbD i = false := by
  induction n generalizing c with
  | zero => simp
  | succ n ih =>
    rw [Function.iterate_succ_apply] at h
    have hlow := ih (by omega) fun i hi => h i (by omega)
    rw [crcShift_iterate_of_low_zero n hlow] at h
    have hzero : c.getLsbD 0 = false := by
      have htop := h (15 - n) (by omega)
      rwa [BitVec.getLsbD_ushiftRight, Nat.add_sub_of_le (by omega), crcShift_getLsbD_fifteen] at htop
    intro i hi
    cases i with
    | zero => exact hzero
    | succ i =>
      have := hlow i (by omega)
      rwa [crcShift_of_getLsbD_zero hzero, BitVec.getLsbD_ushiftRight, Nat.add_comm] at this

/-- A byte leaves a register below 256 exactly when it is the register's low byte, and then the high byte is left. -/
theorem crcByte_eq_setWidth : crcByte c x = y.setWidth 16 ↔ x = lo c ∧ y = hi c := by
  have hdown : c >>> 8 = (hi c).setWidth 16 := by
    ext i hi
    simp only [Sys2Proof.hi, BitVec.getElem_ushiftRight, BitVec.getElem_setWidth, BitVec.getLsbD_extractLsb',
      Bool.eq_and_self, decide_eq_true_eq]
    exact fun hbit => by have := BitVec.lt_of_getLsbD hbit; omega
  constructor
  · intro h
    have hlow : ∀ i < 8, (c ^^^ x.setWidth 16).getLsbD i = false :=
      low_zero_of_crcShift_iterate (by decide) fun i hi => by
        rw [← crcByte_eq_iterate, h, BitVec.getLsbD_setWidth, BitVec.getLsbD_of_ge y i hi, Bool.and_false]
    have hx : x = lo c := by
      ext i hi
      have := hlow i hi
      simp only [BitVec.getLsbD_xor, BitVec.getLsbD_setWidth] at this
      simp [lo]
      grind
    subst hx
    rw [crcByte_lo, hdown] at h
    refine ⟨rfl, ?_⟩
    ext i hi
    have := congrArg (fun v => BitVec.getLsbD v i) h
    simp at this
    grind
  · rintro ⟨rfl, rfl⟩
    rw [crcByte_lo, hdown]

theorem eq_setWidth_iff : c = y.setWidth 16 ↔ y = lo c ∧ 0#8 = hi c := by
  simp only [← BitVec.toNat_inj, BitVec.toNat_setWidth, lo_toNat, hi_toNat, BitVec.toNat_ofNat]
  have := y.isLt
  have := c.isLt
  omega

/-- Settles O19: each of the two bytes is the low byte of the register it meets. -/
theorem residueDeterminesChecksum : Obligations.ResidueDeterminesChecksum := by
  intro bs x y
  have hresidue : crc16 (bs ++ [x, y]) = crcByte (crcByte (crc16 bs) x) y := by
    rw [crc16, List.foldl_append]
    rfl
  rw [hresidue, show (0#16 : Half) = (0#8 : Byte).setWidth 16 from rfl, crcByte_eq_setWidth, ← eq_setWidth_iff,
    crcByte_eq_setWidth]

/-! ### Linearity (R179) -/

theorem crcShift_xor (c d : Half) : crcShift (c ^^^ d) = crcShift c ^^^ crcShift d := by
  have hcancel (v w p : Half) : v ^^^ p ^^^ (w ^^^ p) = v ^^^ w := by
    have : v ^^^ p ^^^ (w ^^^ p) = v ^^^ w ^^^ (p ^^^ p) := by ac_rfl
    rw [this, BitVec.xor_self, BitVec.xor_zero]
  unfold crcShift
  rw [BitVec.getLsbD_xor, BitVec.ushiftRight_xor_distrib]
  cases c.getLsbD 0 with
  | false =>
    cases d.getLsbD 0 with
    | false => rfl
    | true => exact BitVec.xor_assoc ..
  | true =>
    cases d.getLsbD 0 with
    | false => exact (BitVec.xor_assoc ..).trans ((congrArg _ (BitVec.xor_comm ..)).trans (BitVec.xor_assoc ..).symm)
    | true => exact (hcancel ..).symm

theorem crcShift_iterate_xor (n : Nat) (c d : Half) : crcShift^[n] (c ^^^ d) = crcShift^[n] c ^^^ crcShift^[n] d := by
  induction n generalizing c d with
  | zero => rfl
  | succ n ih => rw [Function.iterate_succ_apply, crcShift_xor, ih]; rfl

theorem crcByte_xor (c d : Half) (x y : Byte) : crcByte (c ^^^ d) (x ^^^ y) = crcByte c x ^^^ crcByte d y := by
  have harg : c ^^^ d ^^^ (x ^^^ y).setWidth 16 = (c ^^^ x.setWidth 16) ^^^ (d ^^^ y.setWidth 16) := by
    rw [BitVec.setWidth_xor]
    ac_rfl
  simp only [crcByte_eq_iterate, harg, crcShift_iterate_xor]

/-- The register after two byte sequences of one length, from any two starts. -/
theorem foldl_crcByte_xor {xs ys : List Byte} (h : xs.length = ys.length) (c d : Half) :
    (List.zipWith (fun a b => a ^^^ b) xs ys).foldl crcByte (c ^^^ d) = xs.foldl crcByte c ^^^ ys.foldl crcByte d := by
  induction xs generalizing ys c d with
  | nil =>
    cases ys with
    | nil => rfl
    | cons y ys => cases h
  | cons x xs ih =>
    cases ys with
    | nil => cases h
    | cons y ys =>
      rw [List.zipWith_cons_cons, List.foldl_cons, crcByte_xor, ih (Nat.succ.inj h)]
      rfl

/-- R179 (b): a zero byte leaves a zero register. -/
theorem crc16_zero_cons (bs : List Byte) : crc16 (0#8 :: bs) = crc16 bs :=
  congrArg (fun c => bs.foldl crcByte c) (by decide : crcByte 0#16 0#8 = 0#16)

theorem crc16_replicate_zero (n : Nat) : crc16 (List.replicate n 0#8) = 0#16 := by
  induction n with
  | zero => rfl
  | succ n ih => rw [List.replicate_succ, crc16_zero_cons, ih]

/-- Settles O20: zero bytes leave a zero register, and the register is linear. -/
theorem crcLinear : Obligations.CrcLinear := by
  refine ⟨crc16_replicate_zero, fun n s hrun hn => ?_, ⟨headerAt fcLayout (List.replicate 5 0#8), ?_⟩, crc16_zero_cons,
    fun xs ys h => foldl_crcByte_xor h 0#16 0#16⟩
  · exact exec_crcVerify_of_valid hrun ⟨by simpa using hn, crc16_replicate_zero n⟩
  · exact ⟨decodeHdr_eq_ok_headerAt.2 ⟨by decide, by decide, rfl⟩, by decide, by decide, by decide, by decide⟩

end Sys2Proof.Machine

/-! ## Which agent can change what, in one step

What is not its own an agent leaves as it is (`Confined`): the first step of a command, and each atomic step that follows. -/

namespace Sys2Proof.Machine

variable {s t u : State} {a : Agent} {o : Option Agent} {m : Move} {k n : Nat} {sl : Slot}

/-! ### Sequence counters -/

/-- An interface that stays bound in its slot and generation keeps its sequence counters. -/
def State.SameCounters (s t : State) : Prop :=
  ∀ (n : Nat) (g : Byte) (i j : Iface), s.slots[n]? = some ⟨g, .bound i⟩ → t.slots[n]? = some ⟨g, .bound j⟩ →
    i.dsn = j.dsn ∧ i.bsn = j.bsn

/-- Every slot bound after was bound before, with the same fields. -/
def State.BoundBefore (s t : State) : Prop :=
  ∀ (n : Nat) (g : Byte) (j : Iface), t.slots[n]? = some ⟨g, .bound j⟩ → s.slots[n]? = some ⟨g, .bound j⟩

theorem State.SameCounters.refl (s : State) : s.SameCounters s := fun n g i j hi hj => by
  cases hi.symm.trans hj
  exact ⟨rfl, rfl⟩

theorem State.SameCounters.trans (h : s.SameCounters u) (hbound : u.BoundBefore t) : s.SameCounters t :=
  fun n g i j hi hj => h n g i j hi (hbound n g j hj)

theorem State.BoundBefore.of_slots (h : t.slots = s.slots) : s.BoundBefore t := fun _ _ _ hj => h ▸ hj

/-- Writing a slot that is then not bound binds nothing. -/
theorem boundBefore_setSlot (hsl : ∀ i, sl.occ ≠ .bound i) : s.BoundBefore (s.setSlot n sl) := by
  intro m g j hj
  rw [State.setSlot_slots, List.getElem?_set] at hj
  split at hj
  · split at hj
    · exact absurd (congrArg Slot.occ (Option.some.inj hj)) (hsl j)
    · cases hj
  · exact hj

theorem boundBefore_unlink (s : State) (n : Nat) : s.BoundBefore (s.unlink n) := by
  unfold State.unlink
  split
  · next sl hsl =>
    obtain ⟨g, o⟩ := sl
    cases o with
    | bound i => exact boundBefore_setSlot (by simp [Slot.unlink])
    | free => exact boundBefore_setSlot (by simp [Slot.unlink])
    | unlinked i => exact boundBefore_setSlot (by simp [Slot.unlink])
  · exact .of_slots rfl

theorem boundBefore_vacate (s : State) (n : Nat) : s.BoundBefore (s.vacate n) := by
  unfold State.vacate
  split
  · exact boundBefore_setSlot (by simp)
  · exact .of_slots rfl

theorem boundBefore_host (h : Micro .host s t) : s.BoundBefore t := by
  cases h.host_cases with
  | removed => exact boundBefore_vacate s _
  | unlinks => exact boundBefore_unlink s _
  | unlinked => exact boundBefore_vacate s _
  | _ => exact .of_slots rfl

/-! ### What an atomic step leaves as it is -/

theorem Micro.length_slots (h : Micro a s t) : t.slots.length = s.slots.length := by
  cases a with
  | rx => rw [h.rx_frame]
  | work => rw [h.work_frame]
  | tx k =>
    cases h.tx_cases with
    | numbered => exact List.length_set
    | _ => rfl
  | host =>
    cases h.host_cases with
    | removed => exact s.vacate_slots_length _
    | unlinks => exact s.unlink_slots_length _
    | unlinked => exact s.vacate_slots_length _
    | _ => rfl

theorem Micro.fixed (h : Micro a s t) : (t.cfg, t.resetIn) = (s.cfg, s.resetIn) := by
  cases a with
  | host => rw [h.host_frame]
  | rx => rw [h.rx_frame]
  | tx k => rw [h.tx_frame]
  | work => rw [h.work_frame]

theorem Micro.radio (h : Micro a s t) (ha : a ≠ .work) : (t.curChannel, t.filter) = (s.curChannel, s.filter) := by
  cases a with
  | host => rw [h.host_frame]
  | rx => rw [h.rx_frame]
  | tx k => rw [h.tx_frame]
  | work => exact absurd rfl ha

theorem Micro.drops (h : Micro a s t) (ha : a ≠ .rx) :
    (t.cntBadcsum, t.cntMalformed) = (s.cntBadcsum, s.cntMalformed) := by
  cases a with
  | host => rw [h.host_frame]
  | rx => exact absurd rfl ha
  | tx k => rw [h.tx_frame]
  | work => rw [h.work_frame]

theorem Micro.life (h : Micro a s t) (ha : a ≠ .host) : (t.life, t.fatalCause) = (s.life, s.fatalCause) := by
  cases a with
  | host => exact absurd rfl ha
  | rx => rw [h.rx_frame]
  | tx k => rw [h.tx_frame]
  | work => rw [h.work_frame]

theorem Micro.boundBefore (h : Micro a s t) (ha : ∀ k, a ≠ .tx k) : s.BoundBefore t := by
  cases a with
  | host => exact boundBefore_host h
  | rx => exact .of_slots (by rw [h.rx_frame])
  | tx k => exact absurd rfl (ha k)
  | work => exact .of_slots (by rw [h.work_frame])

/-! ### What a run leaves as it is -/

/-- What the agent `o` cannot change, and with `none` nothing at all (R6, R7, R22 to R27, R30, R393). -/
structure Confined (o : Option Agent) (s t : State) : Prop where
  fixed : (t.cfg, t.resetIn) = (s.cfg, s.resetIn)
  size : t.slots.length = s.slots.length
  radio : o ≠ some .work → (t.curChannel, t.filter) = (s.curChannel, s.filter)
  drops : o ≠ some .rx → (t.cntBadcsum, t.cntMalformed) = (s.cntBadcsum, s.cntMalformed)
  life : o ≠ some .host → (t.life, t.fatalCause) = (s.life, s.fatalCause)
  counters : (∀ k, o ≠ some (.tx k)) → s.SameCounters t

theorem Confined.refl (o : Option Agent) (s : State) : Confined o s s :=
  ⟨rfl, rfl, fun _ => rfl, fun _ => rfl, fun _ => rfl, fun _ => .refl _⟩

theorem Confined.of_quiet (h : s.Quiet t) : Confined none s t := by
  rw [h.1]
  exact ⟨rfl, rfl, fun _ => rfl, fun _ => rfl, fun _ => rfl, fun _ => .refl _⟩

theorem Confined.from_quiet (hq : s.Quiet u) (h : Confined o u t) : Confined o s t := by
  rw [hq.1] at h
  exact ⟨h.fixed, h.size, h.radio, h.drops, h.life, h.counters⟩

/-- The agent's next atomic step. -/
theorem Confined.micro (e : Micro a u t) (h : Confined (some a) s u) : Confined (some a) s t where
  fixed := e.fixed.trans h.fixed
  size := e.length_slots.trans h.size
  radio ha := (e.radio (mt (congrArg some) ha)).trans (h.radio ha)
  drops ha := (e.drops (mt (congrArg some) ha)).trans (h.drops ha)
  life ha := (e.life (mt (congrArg some) ha)).trans (h.life ha)
  counters ha := (h.counters ha).trans (e.boundBefore fun k => mt (congrArg some) (ha k))

theorem Confined.run (h : Confined (some a) s u) (hrun : a.Run u t) : Confined (some a) s t :=
  hrun.keeps (P := Confined (some a) s) (fun e h => h.micro e) h

/-- R212: the slot an interface is created in was free. -/
theorem sameCounters_create (hfree : s.freeSlot = some n) (type : IfType) (hw : LongAddr) :
    s.SameCounters (s.create n type hw) := by
  obtain ⟨⟨g', hslot⟩, -⟩ := State.freeSlot_eq_some hfree
  intro m g i j hi hj
  rw [State.create_eq] at hj
  have hne : n ≠ m := by
    rintro rfl
    cases hslot.symm.trans hi
  exact State.SameCounters.refl s m g i j hi ((List.getElem?_set_ne hne).symm.trans hj)

/-- R234: no register write reaches a sequence counter. -/
theorem Iface.write_counters (i : Iface) (r : Reg) (v : Value) : (i.write r v).dsn = i.dsn ∧ (i.write r v).bsn = i.bsn := by
  cases r <;> exact ⟨rfl, rfl⟩

theorem writeReg_slots (s : State) (h : Handle) (i : Iface) (r : Reg) (v : Value) :
    (s.writeReg h i r v).slots = s.slots.set h.slot.toNat ⟨h.gen, .bound (i.write r v)⟩ := by
  unfold State.writeReg
  split <;> rfl

theorem sameCounters_writeReg {h : Handle} {i : Iface} (hi : s.ifaceOf h = some i) (r : Reg) (v : Value) :
    s.SameCounters (s.writeReg h i r v) := by
  intro m g i' j hi' hj
  rw [writeReg_slots, List.getElem?_set] at hj
  split at hj
  next hm =>
    subst hm
    have hslot := State.ifaceOf_eq_some.1 hi
    split at hj
    · cases hj
      cases hslot.symm.trans hi'
      exact ⟨(i.write_counters r v).1.symm, (i.write_counters r v).2.symm⟩
    · cases hj
  next => exact State.SameCounters.refl s m g i' j hi' hj

/-- The first step of a command. -/
theorem Starts.confined (h : Starts s a u) : Confined (some a) s u := by
  cases h with
  | create n type hw _ hfree =>
    have heq := s.create_eq n type hw
    refine ⟨congrArg (fun t => (t.cfg, t.resetIn)) heq, ?_, fun _ => congrArg (fun t => (t.curChannel, t.filter)) heq,
      fun _ => congrArg (fun t => (t.cntBadcsum, t.cntMalformed)) heq, fun ha => absurd rfl ha,
      fun _ => sameCounters_create hfree type hw⟩
    exact (congrArg (fun t => t.slots.length) heq).trans List.length_set
  | remove h i =>
    rw [State.unlink_frame]
    exact ⟨rfl, s.unlink_slots_length _, fun _ => rfl, fun _ => rfl, fun ha => absurd rfl ha,
      fun _ => (State.SameCounters.refl s).trans (boundBefore_unlink s _)⟩
  | unregister => exact ⟨rfl, rfl, fun _ => rfl, fun _ => rfl, fun ha => absurd rfl ha, fun _ => .refl _⟩
  | drain => exact ⟨rfl, rfl, fun _ => rfl, fun _ => rfl, fun ha => absurd rfl ha, fun _ => .refl _⟩
  | fatal => exact ⟨rfl, rfl, fun _ => rfl, fun _ => rfl, fun ha => absurd rfl ha, fun _ => .refl _⟩
  | write h i r v _ hi =>
    have hsize : (s.writeReg h i r v).slots.length = s.slots.length := by rw [writeReg_slots, List.length_set]
    have hrest : s.writeReg h i r v = { s with slots := (s.writeReg h i r v).slots, wq := (s.writeReg h i r v).wq } := by
      unfold State.writeReg
      split <;> rfl
    exact ⟨congrArg (fun t => (t.cfg, t.resetIn)) hrest, hsize, fun _ => congrArg (fun t => (t.curChannel, t.filter)) hrest,
      fun _ => congrArg (fun t => (t.cntBadcsum, t.cntMalformed)) hrest, fun ha => absurd rfl ha,
      fun _ => sameCounters_writeReg hi r v⟩
  | receive => exact ⟨rfl, rfl, fun _ => rfl, fun ha => absurd rfl ha, fun _ => rfl, fun _ => .refl _⟩
  | call => exact ⟨rfl, rfl, fun _ => rfl, fun _ => rfl, fun _ => rfl, fun _ => .refl _⟩

/-! ### The steps -/

/-- The move is one of the agent's own, or takes an input addressed to it (R7, R111, R251). -/
def State.ActsBy (s : State) (m : Move) : Agent → Prop
  | .host => (∃ j, m = .host j) ∨ (m = .cmd ∧ s.headAddressee = some .host)
  | .rx => (∃ j, m = .rx j) ∨ m = .phy ∨ (m = .cmd ∧ s.headAddressee = some .rx)
  | .tx _ => (∃ k, m = .tx k) ∨ (m = .cmd ∧ s.headAddressee = some .tx)
  | .work => ∃ j, m = .work j

theorem actsBy_cmd (h : a.addressee = s.headAddressee) (hhead : s.headAddressee ≠ none) : s.ActsBy .cmd a := by
  cases a with
  | host => exact .inr ⟨rfl, h.symm⟩
  | rx => exact .inr (.inr ⟨rfl, h.symm⟩)
  | tx k => exact .inr ⟨rfl, h.symm⟩
  | work => exact absurd h.symm hhead

/-- A move but the reset is confined to an agent that acts by it, or is quiet. -/
theorem Performed.confined (h : Performed s m t) (hreset : m ≠ .reset) :
    ∃ o, Confined o s t ∧ ∀ a ∈ o, s.ActsBy m a := by
  have some_agent {a : Agent} (hc : Confined (some a) s t) (ha : s.ActsBy m a) :
      ∃ o, Confined o s t ∧ ∀ a ∈ o, s.ActsBy m a :=
    ⟨_, hc, fun b hb => Option.some.inj hb ▸ ha⟩
  cases h with
  | quiet h => exact ⟨none, .of_quiet h, fun a ha => by cases ha⟩
  | reset => exact absurd rfl hreset
  | host _ run => exact some_agent ((Confined.refl _ s).run run) (.inl ⟨_, rfl⟩)
  | @rx j _ _ run =>
    have hfocus : Confined (some .rx) s (s.focusRx j) := by
      rw [focusRx_frame]
      exact ⟨rfl, rfl, fun _ => rfl, fun _ => rfl, fun _ => rfl, fun _ => .refl _⟩
    exact some_agent (hfocus.run run) (.inl ⟨_, rfl⟩)
  | tx _ run => exact some_agent ((Confined.refl _ s).run run) (.inl ⟨_, rfl⟩)
  | work _ run => exact some_agent ((Confined.refl _ s).run run) ⟨_, rfl⟩
  | @command bs queue a _ _ head addressed _ start run =>
    have hhead : s.headAddressee = some (addressee bs) := by rw [State.headAddressee, head]; rfl
    exact some_agent (.from_quiet ⟨rfl, Nat.le_succ _⟩ (start.confined.run run))
      (actsBy_cmd (addressed.trans hhead.symm) (by simp [hhead]))
  | @frame f queue _ _ _ run =>
    have hstart : Confined (some .rx) s (({ s with phyIn := queue } : State).startRx .radio f) :=
      ⟨rfl, rfl, fun _ => rfl, fun _ => rfl, fun _ => rfl, fun _ => .refl _⟩
    exact some_agent (hstart.run run) (.inr (.inl rfl))

/-- R380: the reset keeps the configuration, and gives the bank its `N_IF` slots. -/
theorem Performed.of_reset (h : Performed s .reset t) : t.cfg = s.cfg ∧ (s.BankSized → t.BankSized) := by
  cases h with
  | quiet h =>
    rw [h.1]
    exact ⟨rfl, id⟩
  | reset => exact ⟨rfl, fun _ => List.length_replicate⟩

/-- A move that is the agent's, as the statement names it. -/
theorem State.ActsBy.of_host {move : Option Move} (h : s.ActsBy m .host) (hm : move = some m) :
    (∃ j, move = some (.host j)) ∨ (move = some .cmd ∧ s.headAddressee = some .host) := by
  obtain ⟨j, rfl⟩ | ⟨rfl, ha⟩ := h
  · exact .inl ⟨j, hm⟩
  · exact .inr ⟨hm, ha⟩

theorem State.ActsBy.of_rx {move : Option Move} (h : s.ActsBy m .rx) (hm : move = some m) :
    (∃ j, move = some (.rx j)) ∨ move = some .phy ∨ (move = some .cmd ∧ s.headAddressee = some .rx) := by
  obtain ⟨j, rfl⟩ | rfl | ⟨rfl, ha⟩ := h
  · exact .inl ⟨j, hm⟩
  · exact .inr (.inl hm)
  · exact .inr (.inr ⟨hm, ha⟩)

theorem State.ActsBy.of_tx {move : Option Move} (h : s.ActsBy m (.tx k)) (hm : move = some m) :
    (∃ k, move = some (.tx k)) ∨ (move = some .cmd ∧ s.headAddressee = some .tx) := by
  obtain ⟨k, rfl⟩ | ⟨rfl, ha⟩ := h
  · exact .inl ⟨k, hm⟩
  · exact .inr ⟨hm, ha⟩

/-- A step that is no reset is confined to an agent that acts by its move. -/
theorem confined_of_step (h : step s = .next t) (hreset : s.turn.1 ≠ some .reset) :
    ∃ o, Confined o s t ∧ ∀ a, o = some a → ∃ m, s.turn.1 = some m ∧ s.ActsBy m a := by
  obtain ⟨m, sched, burst, drawn, hturn, hperf⟩ | ⟨-, hquiet⟩ := step_cases h
  · obtain ⟨o, ho, hacts⟩ := hperf.confined fun hm => hreset (hm ▸ hturn)
    exact ⟨o, .from_quiet (u := s.rescheduled sched burst drawn) ⟨rfl, le_rfl⟩ ho, fun a ha => ⟨m, hturn, hacts a ha⟩⟩
  · exact ⟨none, .of_quiet hquiet, fun a ha => by cases ha⟩

/-- Settles O52: a step is confined to the agent that acts. -/
theorem agentsOwnState : Obligations.AgentsOwnState := by
  intro s t h move byHost byRx byTx
  by_cases hreset : move = some .reset
  · obtain ⟨m, sched, burst, drawn, hturn, hperf⟩ | ⟨hnone, -⟩ := step_cases h
    · cases hturn.symm.trans hreset
      obtain ⟨hcfg, hsize⟩ := hperf.of_reset
      exact ⟨hcfg, hsize, fun hne => absurd hreset hne⟩
    · cases hnone.symm.trans hreset
  · obtain ⟨o, ho, hacts⟩ := confined_of_step h hreset
    obtain ⟨hcfg, hresetIn⟩ := Prod.mk.inj ho.fixed
    refine ⟨hcfg, fun hsize => ?_, fun _ => ⟨ho.size, hresetIn, fun hne => ?_, fun hne => ?_, fun hne => ?_, ?_⟩⟩
    · exact (ho.size.trans hsize).trans (congrArg Config.nIf hcfg.symm)
    · have hwork : o = some .work := by
        by_contra hother
        obtain ⟨hchannel, hfilter⟩ := Prod.mk.inj (ho.radio hother)
        exact hne.elim (absurd hchannel) (absurd hfilter)
      obtain ⟨m, hm, j, rfl⟩ := hacts _ hwork
      exact ⟨j, hm⟩
    · have hrx : o = some .rx := by
        by_contra hother
        obtain ⟨hbadcsum, hmalformed⟩ := Prod.mk.inj (ho.drops hother)
        exact hne.elim (absurd hbadcsum) (absurd hmalformed)
      obtain ⟨m, hm, hact⟩ := hacts _ hrx
      exact hact.of_rx hm
    · have hhost : o = some .host := by
        by_contra hother
        obtain ⟨hlife, hcause⟩ := Prod.mk.inj (ho.life hother)
        exact hne.elim (absurd hlife) (absurd hcause)
      obtain ⟨m, hm, hact⟩ := hacts _ hhost
      exact hact.of_host hm
    · intro n g i j hi hj hne
      by_cases htx : ∃ k, o = some (.tx k)
      · obtain ⟨k, hk⟩ := htx
        obtain ⟨m, hm, hact⟩ := hacts _ hk
        exact hact.of_tx hm
      · obtain ⟨hdsn, hbsn⟩ := ho.counters (fun k hk => htx ⟨k, hk⟩) n g i j hi hj
        exact hne.elim (absurd hdsn) (absurd hbsn)

end Sys2Proof.Machine

/-! ## The registry: IF_ADD, IF_REMOVE, DEV_FREE and what is refused -/

namespace Sys2Proof.Machine

variable {s t : State} {h : Handle} {i : Iface} {g : Byte} {o : Occupant} {j k n : Nat} {r : Reg} {b : Byte}

/-! ### The interface bank -/

theorem not_reusable_of_valid {sl : Slot} (hvalid : sl.valid = true) : sl.reusable = false := by
  obtain ⟨g, o⟩ := sl
  cases o with
  | bound i => rfl
  | free => cases hvalid
  | unlinked i => cases hvalid

/-- The lowest slot that is free, with every one below it bound (R212). -/
theorem freeSlot_of_lowest (hfree : s.slots[n]? = some ⟨g, .free⟩)
    (hbelow : ∀ m < n, ∃ sl, s.slots[m]? = some sl ∧ sl.valid = true) : s.freeSlot = some n := by
  obtain ⟨hn, hslot⟩ := List.getElem?_eq_some_iff.1 hfree
  refine List.findIdx?_eq_some_iff_getElem.2 ⟨hn, by rw [hslot]; rfl, fun m hm => ?_⟩
  obtain ⟨sl, hsl, hvalid⟩ := hbelow m hm
  have hm := (List.getElem?_eq_some_iff.1 hsl).2
  rw [hm, not_reusable_of_valid hvalid]
  exact Bool.false_ne_true

theorem freeSlot_of_all_bound (hbound : ∀ sl ∈ s.slots, sl.valid = true) : s.freeSlot = none :=
  State.freeSlot_eq_none.2 fun sl hsl hfree => by
    have hvalid := hbound sl hsl
    rw [Slot.valid, hfree] at hvalid
    cases hvalid

theorem genOf_of_getElem (hslot : s.slots[n]? = some ⟨g, o⟩) : s.genOf n = g := by
  simp only [State.genOf, hslot]

theorem unlink_of_bound (hslot : s.slots[n]? = some ⟨g, .bound i⟩) :
    s.unlink n = s.setSlot n ⟨genAfter s.cfg g, .unlinked i⟩ := by
  simp only [State.unlink, hslot, Slot.unlink]
  rfl

theorem vacate_of_getElem (hslot : s.slots[n]? = some ⟨g, o⟩) : s.vacate n = s.setSlot n ⟨g, .free⟩ := by
  simp only [State.vacate, hslot]

/-- The bound slots by the bank's own test. -/
theorem boundSlots_eq_filter (s : State) :
    s.boundSlots = (List.range s.slots.length).filter (fun n => (s.slots[n]?).any Slot.valid) := by
  refine List.filter_congr fun n _ => ?_
  cases s.slots[n]? <;> rfl

/-- As many indices satisfy a test as elements do. -/
theorem length_filter_range_any {α : Type} (p : α → Bool) (l : List α) :
    ((List.range l.length).filter (fun n => (l[n]?).any p)).length = l.countP p := by
  induction l using List.reverseRecOn with
  | nil => rfl
  | append_singleton l x ih =>
    have hinit : (List.range l.length).filter (fun n => ((l ++ [x])[n]?).any p) =
        (List.range l.length).filter (fun n => (l[n]?).any p) :=
      List.filter_congr fun n hn => by rw [List.getElem?_append_left (List.mem_range.1 hn)]
    rw [List.length_append, List.length_singleton, List.range_succ, List.filter_append, hinit, List.length_append, ih,
      List.countP_append]
    cases hx : p x <;> simp [hx]

theorem length_boundSlots (s : State) : s.boundSlots.length = s.slots.countP Slot.valid := by
  rw [boundSlots_eq_filter, length_filter_range_any]

theorem boundSlots_eq_nil : s.boundSlots = [] ↔ ∀ sl ∈ s.slots, sl.valid = false := by
  rw [← List.length_eq_zero_iff, length_boundSlots, List.countP_eq_zero]
  simp

theorem boundSlots_ne_nil (h : ∃ sl ∈ s.slots, sl.valid = true) : s.boundSlots ≠ [] := by
  obtain ⟨sl, hsl, hvalid⟩ := h
  intro hnil
  simp [boundSlots_eq_nil.1 hnil sl hsl] at hvalid

/-! ### IF_ADD -/

/-- Settles O22: the refusals by their cases, the creation by the whole effect of `create`. -/
theorem ifAddAnswers : Obligations.IfAddAnswers := by
  refine fun type hw s => ⟨exec_ifAdd_badOperand, exec_ifAdd_gone, fun htype hlive hbound => ?_,
    fun n g htype hlive hfree hbelow => ⟨s.drawSeq.1, s.drawSeq.2.drawSeq.1, s.drawSeq.2.drawSeq.2.seqs,
      s.drawSeq.2.drawSeq.2.drawn, ?_, fun x y zs hseqs => ?_⟩⟩
  · exact exec_ifAdd_tableFull htype hlive (freeSlot_of_all_bound hbound)
  · rw [exec_ifAdd_created htype hlive (freeSlot_of_lowest hfree hbelow), State.create_eq, genOf_of_getElem hfree]
    rfl
  · rw [s.drawSeq_cons x _ hseqs]
    exact ⟨rfl, by rw [State.drawSeq_cons _ y zs rfl], by rw [State.drawSeq_cons _ y zs rfl]⟩

/-! ### The HOST agent's waits, case by case (R220, R225, R228) -/

/-- A wait that is not over takes up the whole burst. -/
theorem advanceHost_of_waits (hwaits : hostMicro 0 s = s) (n : Nat) : advanceHost n s = s := by
  induction n with
  | zero => rfl
  | succ n ih => rw [advanceHost, hwaits, ih]

theorem hostMicro_removing_held (hhost : s.host = .removing k n) (hheld : s.holds n = true) : hostMicro j s = s := by
  simp only [hostMicro, hhost, hheld, if_true]

theorem hostMicro_removing_over (hhost : s.host = .removing k n) (hheld : s.holds n = false)
    (hslot : s.slots[n]? = some ⟨g, o⟩) : hostMicro j s = { s with
      slots := s.slots.set n ⟨g, .free⟩, host := .idle, out := s.out ++ [.response k [0#8]] } := by
  simp only [hostMicro, hhost, hheld, Bool.false_eq_true, if_false, vacate_of_getElem hslot]
  rfl

theorem hostMicro_unlinking_held (hhost : s.host = .unlinking k n) (hheld : s.holds n = true) : hostMicro j s = s := by
  simp only [hostMicro, hhost, hheld, if_true]

theorem hostMicro_unlinking_over (hhost : s.host = .unlinking k n) (hheld : s.holds n = false)
    (hslot : s.slots[n]? = some ⟨g, o⟩) : hostMicro j s = { s with
      slots := s.slots.set n ⟨g, .free⟩, host := .unregistering k } := by
  simp only [hostMicro, hhost, hheld, Bool.false_eq_true, if_false, vacate_of_getElem hslot]
  rfl

theorem hostMicro_draining_over (hhost : s.host = .draining k) (hwq : s.wq = []) (hwork : s.work = .idle) :
    hostMicro j s = { s with host := .settling k } := by
  simp only [hostMicro, hhost, if_pos (And.intro hwq (State.wqBusy_eq_false.2 hwork))]
  rfl

theorem hostMicro_draining_waits (hhost : s.host = .draining k) (hbusy : s.wq ≠ [] ∨ s.work ≠ .idle) :
    hostMicro j s = s := by
  have hnot : ¬ (s.wq = [] ∧ s.wqBusy = false) := fun ⟨hwq, hidle⟩ =>
    hbusy.elim (absurd hwq) (absurd (State.wqBusy_eq_false.1 hidle))
  simp only [hostMicro, hhost, if_neg hnot]

theorem hostMicro_settling_over (hhost : s.host = .settling k) (htrav : s.trav = []) :
    hostMicro j s = { s with host := .releasing k } := by
  simp only [hostMicro, hhost, if_pos htrav]
  rfl

theorem hostMicro_settling_waits (hhost : s.host = .settling k) (htrav : s.trav ≠ []) : hostMicro j s = s := by
  simp only [hostMicro, hhost, if_neg htrav]

theorem hostMicro_releasing (hhost : s.host = .releasing k) : hostMicro j s = { s with
    life := .released, host := .idle, out := s.out ++ [.response k [0#8]] } := by
  simp only [hostMicro, hhost]
  rfl

/-! ### IF_REMOVE -/

/-- A handle whose slot is written to hold no interface is stale. -/
theorem ifaceOf_set_unbound (ho : ∀ i, o ≠ .bound i) (hslots : t.slots = s.slots.set h.slot.toNat ⟨g, o⟩) :
    t.ifaceOf h = none := by
  refine State.ifaceOf_eq_none.2 fun i hi => ?_
  rw [hslots, List.getElem?_set, if_pos rfl] at hi
  split at hi
  · exact ho i (congrArg Slot.occ (Option.some.inj hi))
  · cases hi

/-- Settles O23: the unlink is one step, and what follows it is the wait's. -/
theorem ifRemoveAnswers : Obligations.IfRemoveAnswers := by
  refine ⟨fun h s => ⟨exec_ifRemove_gone, exec_ifRemove_badHandle, ?_⟩, fun j k n s hhost =>
    ⟨hostMicro_removing_held hhost, fun g o hheld hslot => hostMicro_removing_over hhost hheld hslot⟩⟩
  intro i hlive hi unlinked removed
  have hslot := State.ifaceOf_eq_some.1 hi
  have hexec : exec (.ifRemove h) s = .next (advanceHost s.burst unlinked) := by
    rw [exec_ifRemove_unlinks hlive hi, unlink_of_bound hslot]
    rfl
  have hslot' : unlinked.slots[h.slot.toNat]? = some ⟨genAfter s.cfg h.gen, .unlinked i⟩ :=
    List.getElem?_set_self (List.getElem?_eq_some_iff.1 hslot).1
  refine ⟨fun hwaits => ?_, fun hburst hheld => ?_, ifaceOf_set_unbound (by simp) rfl, ifaceOf_set_unbound (by simp) rfl⟩
  · rw [hexec]
    obtain hburst | hheld := hwaits
    · rw [hburst, advanceHost_zero]
    · rw [advanceHost_of_waits (hostMicro_removing_held (s := unlinked) rfl hheld)]
  · obtain ⟨b, hb⟩ := Nat.exists_eq_succ_of_ne_zero hburst
    rw [hexec, hb, advanceHost, hostMicro_removing_over (s := unlinked) rfl hheld hslot', advanceHost_idle _ _ rfl]
    simp only [unlinked, removed, List.set_set]

/-! ### DEV_FREE -/

/-- Settles O26: as many interfaces are bound as slots are valid. -/
theorem devFreeFatal : Obligations.DevFreeFatal := by
  intro s hlive hbound
  rw [exec_devFree_fatal hlive (boundSlots_ne_nil hbound), length_boundSlots, State.event_eq_emit]
  simp only [State.refuse, State.answer, State.emit, List.append_assoc]
  rfl

/-- R226, R228: with the queue, the WORK agent and the traversals at rest, three steps end the drain. -/
theorem advanceHost_drained (hhost : s.host = .draining k) (hwq : s.wq = []) (hwork : s.work = .idle)
    (htrav : s.trav = []) (hn : 3 ≤ n) : advanceHost n s = { s with
      life := .released, host := .idle, out := s.out ++ [.response k [0#8]] } := by
  obtain ⟨n, rfl⟩ := Nat.exists_eq_add_of_le' hn
  rw [advanceHost, hostMicro_draining_over hhost hwq hwork, advanceHost,
    hostMicro_settling_over (s := { s with host := .settling k }) rfl htrav, advanceHost,
    hostMicro_releasing (s := { s with host := .releasing k }) rfl, advanceHost_idle _ _ rfl]

/-- With the queue and the WORK agent at rest but a traversal in progress, a burst ends in the wait for it. -/
theorem advanceHost_settles (hhost : s.host = .draining k) (hwq : s.wq = []) (hwork : s.work = .idle)
    (htrav : s.trav ≠ []) (hn : n ≠ 0) : advanceHost n s = { s with host := .settling k } := by
  obtain ⟨n, rfl⟩ := Nat.exists_eq_succ_of_ne_zero hn
  rw [advanceHost, hostMicro_draining_over hhost hwq hwork,
    advanceHost_of_waits (hostMicro_settling_waits (s := { s with host := .settling k }) rfl htrav)]

/-- Settles O27: the waits step by step, and how far a burst carries them. -/
theorem devFreeReleases : Obligations.DevFreeReleases := by
  refine ⟨fun s => ⟨exec_devFree_gone, fun hlive hvacant => ?_⟩, fun j k s =>
    ⟨fun hhost => ⟨fun h => hostMicro_draining_over hhost h.1 h.2, hostMicro_draining_waits hhost⟩,
      fun hhost => ⟨hostMicro_settling_over hhost, hostMicro_settling_waits hhost⟩, hostMicro_releasing⟩⟩
  let drains : State := { s with life := .draining, host := .draining s.ticket }
  have hexec : exec .devFree s = .next (advanceHost s.burst drains) :=
    exec_devFree_drains hlive (boundSlots_eq_nil.2 hvacant)
  rw [hexec]
  refine ⟨fun hwaits => ?_, fun hburst hwq hwork htrav => ?_, fun hburst hwq hwork htrav => ?_⟩
  · have hstays : advanceHost s.burst drains = drains := by
      obtain hburst | hbusy := hwaits
      · rw [hburst, advanceHost_zero]
      · exact advanceHost_of_waits (hostMicro_draining_waits (s := drains) rfl hbusy) _
    rw [hstays]
  · rw [advanceHost_settles (s := drains) rfl hwq hwork htrav hburst]
  · rw [advanceHost_drained (s := drains) rfl hwq hwork htrav hburst]

end Sys2Proof.Machine

/-! ## DEV_UNREGISTER, the configuration accesses, and what is refused -/

namespace Sys2Proof.Machine

variable {s t : State} {h : Handle} {i : Iface} {g : Byte} {o : Occupant} {j k m n : Nat} {r : Reg} {b : Byte}
  {rest : List Nat}

/-! ### DEV_UNREGISTER (R225, R226) -/

theorem hostMicro_unregistering_done (hhost : s.host = .unregistering k) (hnone : s.boundSlots = []) :
    hostMicro j s = { s with host := .draining k } := by
  simp only [hostMicro, hhost, toFront_eq_nil.2 hnone]
  rfl

theorem hostMicro_unregistering (hhost : s.host = .unregistering k) (hfront : toFront s.boundSlots j = n :: rest)
    (hslot : s.slots[n]? = some ⟨g, .bound i⟩) : hostMicro j s = { s with
      slots := s.slots.set n ⟨genAfter s.cfg g, .unlinked i⟩, host := .unlinking k n } := by
  simp only [hostMicro, hhost, hfront, unlink_of_bound hslot]
  rfl

/-- The slot an index picks comes first. -/
theorem toFront_of_getElem {α : Type} {l : List α} {x : α} (h : l[j]? = some x) : ∃ rest, toFront l j = x :: rest := by
  simp only [toFront, h]
  exact ⟨_, rfl⟩

theorem holds_of_trav_nil (htrav : s.trav = []) (n : Nat) : s.holds n = false := by
  simp [State.holds, htrav]

/-- With no traversal in progress two steps remove the first bound slot. -/
theorem hostMicro_unregistering_twice (hhost : s.host = .unregistering k) (hbound : s.boundSlots = n :: rest)
    (hslot : s.slots[n]? = some ⟨g, .bound i⟩) (htrav : s.trav = []) : hostMicro 0 (hostMicro 0 s) = { s with
      slots := s.slots.set n ⟨genAfter s.cfg g, .free⟩ } := by
  have hfront : toFront s.boundSlots 0 = n :: rest := by rw [toFront_zero, hbound]
  let unlinked : State := { s with
    slots := s.slots.set n ⟨genAfter s.cfg g, .unlinked i⟩, host := .unlinking k n }
  have hslot' : unlinked.slots[n]? = some ⟨genAfter s.cfg g, .unlinked i⟩ :=
    List.getElem?_set_self (List.getElem?_eq_some_iff.1 hslot).1
  rw [hostMicro_unregistering hhost hfront hslot]
  refine (hostMicro_unlinking_over (s := unlinked) rfl (holds_of_trav_nil htrav n) hslot').trans ?_
  simp only [unlinked, List.set_set, ← hhost]

/-- R221: a slot that is no longer bound is as a removal leaves it. -/
theorem map_removed_of_unbound (hnone : ∀ sl ∈ s.slots, sl.valid = false) :
    s.slots.map (Slot.removed s.cfg) = s.slots := by
  refine List.map_congr_left (g := id) (fun sl hsl => ?_) |>.trans (List.map_id _)
  exact if_neg (ne_true_of_eq_false (hnone sl hsl))

/-- Removing one slot now or with the others comes to the same. -/
theorem map_removed_set (cfg : Config) {l : List Slot} (hslot : l[n]? = some ⟨g, .bound i⟩) :
    (l.set n ⟨genAfter cfg g, .free⟩).map (Slot.removed cfg) = l.map (Slot.removed cfg) := by
  obtain ⟨hn, hget⟩ := List.getElem?_eq_some_iff.1 hslot
  have hsame : Slot.removed cfg ⟨genAfter cfg g, .free⟩ = Slot.removed cfg l[n] := by rw [hget]; rfl
  rw [List.map_set, hsame, ← List.map_set, List.set_getElem_self]

/-- R225, R226: with nothing else in progress, DEV_UNREGISTER removes every bound slot and releases the device. -/
theorem advanceHost_unregisters (hhost : s.host = .unregistering k) (hwq : s.wq = []) (hwork : s.work = .idle)
    (htrav : s.trav = []) (hn : 2 * s.slots.countP Slot.valid + 4 ≤ n) : advanceHost n s = { s with
      life := .released, slots := s.slots.map (Slot.removed s.cfg), host := .idle
      out := s.out ++ [.response k [0#8]] } := by
  induction hcount : s.slots.countP Slot.valid generalizing s n with
  | zero =>
    have hbound : s.boundSlots = [] := List.length_eq_zero_iff.1 ((length_boundSlots s).trans hcount)
    obtain ⟨n, rfl⟩ : ∃ n', n = n' + 1 := ⟨n - 1, by omega⟩
    rw [map_removed_of_unbound (boundSlots_eq_nil.1 hbound), advanceHost, hostMicro_unregistering_done hhost hbound,
      advanceHost_drained (s := { s with host := .draining k }) rfl hwq hwork htrav (by omega)]
  | succ c ih =>
    obtain ⟨m, rest, hbound⟩ := List.exists_cons_of_length_eq_add_one ((length_boundSlots s).trans hcount)
    obtain ⟨g, i, hslot⟩ := State.mem_boundSlots.1 (hbound ▸ List.mem_cons_self)
    obtain ⟨hm, hget⟩ := List.getElem?_eq_some_iff.1 hslot
    have hleft : (s.slots.set m ⟨genAfter s.cfg g, .free⟩).countP Slot.valid = c := by
      rw [List.countP_set hm, hget, hcount]
      simp [Slot.valid]
    obtain ⟨n, rfl⟩ : ∃ n', n = n' + 2 := ⟨n - 2, by omega⟩
    rw [advanceHost, advanceHost, hostMicro_unregistering_twice hhost hbound hslot htrav,
      ih (s := { s with slots := s.slots.set m ⟨genAfter s.cfg g, .free⟩ }) hhost hwq hwork htrav
        (by rw [hleft]; omega) hleft, map_removed_set s.cfg hslot]

/-- Settles O28: the whole burst by `advanceHost_unregisters`, and the steps one by one. -/
theorem devUnregisterReleases : Obligations.DevUnregisterReleases := by
  refine ⟨fun s => ⟨exec_devUnregister_gone, fun hlive hburst => ?_, fun hlive hwq hwork htrav hburst => ?_⟩,
    fun k s => ⟨?_, fun j n hhost => ⟨hostMicro_unlinking_held hhost,
      fun g o hheld hslot => hostMicro_unlinking_over hhost hheld hslot⟩⟩⟩
  · have hnone : advanceHost s.burst = id := by
      rw [hburst]
      rfl
    rw [exec_devUnregister_drains hlive, hnone]
    rfl
  · rw [exec_devUnregister_drains hlive]
    exact congrArg _ (advanceHost_unregisters (s := { s with life := .draining, host := .unregistering s.ticket }) rfl
      hwq hwork htrav hburst)
  · intro hhost unlinked
    refine ⟨fun hnone j => hostMicro_unregistering_done hhost (boundSlots_eq_nil.2 hnone), fun hsome j => ?_,
      fun n g i hslot => ?_⟩
    · obtain ⟨n, rest, hfront⟩ := List.exists_cons_of_ne_nil (mt toFront_eq_nil.1 (boundSlots_ne_nil hsome) : toFront _ j ≠ [])
      obtain ⟨g, i, hslot⟩ := State.mem_boundSlots.1 ((toFront_perm s.boundSlots j).subset (hfront ▸ List.mem_cons_self))
      exact ⟨n, g, i, hslot, hostMicro_unregistering hhost hfront hslot⟩
    · obtain ⟨j, hj⟩ := List.mem_iff_getElem?.1 (State.mem_boundSlots.2 ⟨g, i, hslot⟩)
      obtain ⟨rest, hfront⟩ := toFront_of_getElem hj
      refine ⟨j, fun hlife => mem_moves.2 (.inr (.inr (.inr ⟨hlife, ?_⟩))), hostMicro_unregistering hhost hfront hslot⟩
      have hlen : j < s.boundSlots.length := (List.getElem?_eq_some_iff.1 hj).1
      simp only [State.agentMoves, State.hostMoves, hhost, List.mem_append, List.mem_map, List.mem_range]
      exact .inl (.inl (.inl ⟨j, lt_max_of_lt_right hlen, rfl⟩))

end Sys2Proof.Machine

/-! ## The configuration registers, and the commands that are refused -/

namespace Sys2Proof.Machine

variable {s t : State} {h : Handle} {i : Iface} {r : Reg} {b : Byte} {v w : Value} {n : Nat}

/-! ### Register numbers (R46) -/

/-- The number R46 gives a register. -/
def Reg.number : Reg → Byte
  | .devCaps => 0x00#8
  | .devStatus => 0x01#8
  | .devChannel => 0x02#8
  | .devFilter => 0x03#8
  | .devFilterLong => 0x04#8
  | .devIfcount => 0x05#8
  | .devWqlen => 0x06#8
  | .cntBadcsum => 0x08#8
  | .cntMalformed => 0x09#8
  | .ifCtrl => 0x10#8
  | .ifPan => 0x11#8
  | .ifShort => 0x12#8
  | .ifChannel => 0x13#8
  | .ifHwaddr => 0x14#8
  | .ifBcast => 0x15#8
  | .ifDsn => 0x16#8
  | .ifBsn => 0x17#8

theorem number_of_regOfByte (h : regOfByte b = some r) : b = r.number := by
  unfold regOfByte at h
  split at h
  case h_18 => cases h
  all_goals
    next hb =>
      cases h
      exact BitVec.eq_of_toNat_eq hb

/-- A number that is no register's is unlisted. -/
theorem regOfByte_eq_none (h : ∀ r : Reg, b ≠ r.number) : regOfByte b = none := by
  cases hr : regOfByte b with
  | none => rfl
  | some r => exact absurd (number_of_regOfByte hr) (h r)

theorem writable_of_mem (hb : b ∈ [0x10#8, 0x11#8, 0x12#8, 0x13#8]) : ∃ r, regOfByte b = some r ∧ r.writable = true := by
  simp only [List.mem_cons, List.not_mem_nil, or_false] at hb
  obtain rfl | rfl | rfl | rfl := hb
  · exact ⟨.ifCtrl, rfl, rfl⟩
  · exact ⟨.ifPan, rfl, rfl⟩
  · exact ⟨.ifShort, rfl, rfl⟩
  · exact ⟨.ifChannel, rfl, rfl⟩

theorem interface_of_mem (hb : b ∈ [0x10#8, 0x11#8, 0x12#8, 0x13#8, 0x14#8, 0x15#8, 0x16#8, 0x17#8]) (s : State) :
    ∃ r, regOfByte b = some r ∧ s.devReg r = none := by
  simp only [List.mem_cons, List.not_mem_nil, or_false] at hb
  obtain rfl | rfl | rfl | rfl | rfl | rfl | rfl | rfl := hb <;> exact ⟨_, rfl, rfl⟩

/-! ### Refusals -/

/-- Settles O25: each command by its equation for a stale handle. -/
theorem staleHandleRefused : Obligations.StaleHandleRefused := by
  intro h s hstale bad
  have hi : s.ifaceOf h = none := State.ifaceOf_eq_none.2 hstale
  refine ⟨fun hrun b hb => ?_, fun hlive => ⟨exec_ifRemove_badHandle hlive hi, fun b hb v => ?_,
    fun type sec ackreq seq dst src => exec_encodeHdr_badHandle hlive hi, fun dst srcMode => exec_classify_badHandle hlive hi,
    fun type ackreq dst src payload hdst htype =>
      exec_txFrame_badHandle (frameRefusal_accepted hdst rfl htype) hlive hi⟩⟩
  · obtain ⟨r, hreg, hdev⟩ := interface_of_mem hb s
    exact exec_cfgRead_badHandle hreg hdev hrun hi
  · obtain ⟨r, hreg, hrw⟩ := writable_of_mem hb
    exact exec_cfgWrite_badHandle hreg hrw hlive hi

/-- R251: a frame that arrives in `Released` or `Fatal` is taken off the port, whatever its length. -/
theorem perform_phy_discards {frame : List Byte} {queue : List (List Byte)} (hrun : s.running = false)
    (hphy : s.phyIn = frame :: queue) : perform .phy s = .next { s with phyIn := queue } := by
  change takeFrame s = _
  by_cases hlen : frame.length ≤ 127
  · rw [takeFrame_received hphy hlen]
    exact if_neg (ne_true_of_eq_false hrun)
  · exact takeFrame_dropped hphy (Nat.not_le.1 hlen)

/-- Settles O29: each command by its equation for a life state that refuses it. -/
theorem goneCommandsRefused : Obligations.GoneCommandsRefused := by
  intro s gone
  refine ⟨fun hlive => ⟨exec_devUnregister_gone hlive, exec_devFree_gone hlive,
    fun type hw htype => exec_ifAdd_gone htype hlive, fun h => exec_ifRemove_gone hlive,
    fun h type sec ackreq seq dst src => exec_encodeHdr_gone hlive, fun h dst srcMode => exec_classify_gone hlive,
    fun h v b hb => ?_, fun h type ackreq dst src payload hdst htype =>
      exec_txFrame_gone (frameRefusal_accepted hdst rfl htype) hlive⟩, fun hlife => ?_⟩
  · obtain ⟨r, hreg, hrw⟩ := writable_of_mem hb
    exact exec_cfgWrite_gone hreg hrw hlive
  · have hrun : s.running = false := by
      obtain hlife | hlife := hlife <;> simp [State.running, hlife]
    have hstopped : ¬ s.running = true := ne_true_of_eq_false hrun
    refine ⟨fun bs => ⟨if_neg hstopped, if_neg hstopped, if_neg hstopped, if_neg hstopped, exec_rxFrame_gone hrun⟩,
      fun seq => if_neg hstopped, fun h b hb => ?_,
      fun frame queue hphy => perform_phy_discards hrun hphy⟩
    obtain ⟨r, hreg, hdev⟩ := interface_of_mem hb s
    exact exec_cfgRead_gone hreg hdev hrun

/-- R100: the header length by the modes is the one by their codes. -/
theorem headerLen_eq_wireLen (dst src : Mode) (ip : Bool) : headerLen dst src ip = wireLen dst.bits src.bits ip := by
  cases dst <;> cases src <;> rfl

/-- Settles O43: each refusal by its equation, in their order. -/
theorem txRefusalsConsumeNothing : Obligations.TxRefusalsConsumeNothing := by
  intro h type sec ackreq dst src payload s refused
  refine ⟨fun hdst => exec_txFrame_refused (frameRefusal_no_destination hdst),
    fun hdst hsec => exec_txFrame_refused (frameRefusal_security hdst hsec),
    fun hdst hsec htype => exec_txFrame_refused (frameRefusal_ack hdst hsec htype),
    fun hdst hsec htype => exec_txFrame_refused (frameRefusal_bad_type hdst hsec htype), fun hdst hsec htype => ?_⟩
  have he : frameRefusal type sec dst = none := frameRefusal_accepted hdst hsec htype
  refine ⟨exec_txFrame_gone he, exec_txFrame_badHandle he, fun i hlive hi =>
    ⟨exec_txFrame_channelUnset he hlive hi, fun hchannel hlong => exec_txFrame_tooLong he hlive hi hchannel ?_⟩⟩
  rw [txLength, sourceOf_snap, headerLen_eq_wireLen]
  rwa [length_headerBytes] at hlong

/-! ### CFG_WRITE -/

theorem filterQueued_eq_false : s.filterQueued h = false ↔ WorkItem.filterUpdate h ∉ s.wq := by
  simp [State.filterQueued]

theorem writeReg_eq (s : State) (h : Handle) (i : Iface) (r : Reg) (v : Value) : (s.writeReg h i r v).respond [] = { s with
    slots := s.slots.set h.slot.toNat ⟨h.gen, .bound (i.write r v)⟩
    wq := if (s.needsFilter r && !s.filterQueued h) = true then s.wq ++ [.filterUpdate h] else s.wq
    out := s.out ++ [.response s.ticket [0#8]] } := by
  unfold State.writeReg
  split <;> rfl

/-- R234, R235: a `FilterUpdate` is due, by the register's number. -/
theorem filterWanted_iff (hreg : regOfByte b = some r) : (s.needsFilter r && !s.filterQueued h) = true ↔
    s.cfg.addrFilter = true ∧ (b = 0x11#8 ∨ b = 0x12#8) ∧ WorkItem.filterUpdate h ∉ s.wq := by
  have hfiltered : r.filtered = true ↔ b = 0x11#8 ∨ b = 0x12#8 := by
    rw [number_of_regOfByte hreg]
    cases r <;> decide
  rw [Bool.and_eq_true, Bool.not_eq_true', filterQueued_eq_false, State.needsFilter, Bool.and_eq_true, hfiltered, and_assoc]

theorem readOnly_of_mem (hb : b ∈ [0x00#8, 0x01#8, 0x02#8, 0x03#8, 0x04#8, 0x05#8, 0x06#8, 0x08#8, 0x09#8, 0x14#8,
    0x15#8, 0x16#8, 0x17#8]) : ∃ r, regOfByte b = some r ∧ r.writable = false := by
  simp only [List.mem_cons, List.not_mem_nil, or_false] at hb
  obtain rfl | rfl | rfl | rfl | rfl | rfl | rfl | rfl | rfl | rfl | rfl | rfl | rfl := hb <;> exact ⟨_, rfl, rfl⟩

theorem number_mem (r : Reg) : r.number ∈ [0x10#8, 0x11#8, 0x12#8, 0x13#8] ∨ r.number ∈ [0x00#8, 0x01#8, 0x02#8,
    0x03#8, 0x04#8, 0x05#8, 0x06#8, 0x08#8, 0x09#8, 0x14#8, 0x15#8, 0x16#8, 0x17#8] := by
  cases r <;> decide

theorem extractLsb'_zero_eq_setWidth (v : Value) (n : Nat) : v.extractLsb' 0 n = v.setWidth n := by
  ext i hi
  simp

/-- Settles O31: the refusals in their order; the write by `writeReg_eq`, each register with its own field. -/
theorem cfgWriteEffect : Obligations.CfgWriteEffect := by
  intro h b v s writable readable wanted
  refine ⟨fun hw hr => exec_cfgWrite_badRegister (regOfByte_eq_none fun r hb => ?_), fun hr => ?_, fun hw hlive => ?_,
    fun hw hlive hi => ?_, fun i hlive hi => ⟨fun hw hwanted hfull => ?_, ?_⟩⟩
  · subst hb
    exact (number_mem r).elim hw hr
  · obtain ⟨r, hreg, hrw⟩ := readOnly_of_mem hr
    exact exec_cfgWrite_readOnly hreg hrw
  · obtain ⟨r, hreg, hrw⟩ := writable_of_mem hw
    exact exec_cfgWrite_gone hreg hrw hlive
  · obtain ⟨r, hreg, hrw⟩ := writable_of_mem hw
    exact exec_cfgWrite_badHandle hreg hrw hlive hi
  · obtain ⟨r, hreg, hrw⟩ := writable_of_mem hw
    refine exec_cfgWrite_queueFull hreg hrw hlive hi ?_
    rw [(filterWanted_iff hreg).2 hwanted, State.wqFull_eq_true.2 hfull]
    rfl
  · intro hroom wrote
    have hwrote {r : Reg} (hreg : regOfByte b = some r) (hrw : r.writable = true) : wrote (i.write r v) := by
      have hiff : (s.needsFilter r && !s.filterQueued h) = true ↔ wanted := filterWanted_iff hreg
      have hfits : ¬ (s.needsFilter r && !s.filterQueued h && s.wqFull) = true := by
        rwa [Bool.and_eq_true, hiff, State.wqFull_eq_true]
      change exec (.cfgWrite h b v) s = _
      rw [exec_cfgWrite_writes hreg hrw hlive hi hfits, writeReg_eq]
      simp only [hiff]
    refine ⟨?_, ?_, ?_, ?_⟩
    · rintro rfl
      exact hwrote (r := .ifCtrl) rfl rfl
    · rintro rfl
      rw [← extractLsb'_zero_eq_setWidth]
      exact hwrote (r := .ifPan) rfl rfl
    · rintro rfl
      rw [← extractLsb'_zero_eq_setWidth]
      exact hwrote (r := .ifShort) rfl rfl
    · rintro rfl
      rw [← extractLsb'_zero_eq_setWidth]
      exact hwrote (r := .ifChannel) rfl rfl

/-! ### CFG_READ: the register map bit by bit (R46) -/

/-- A field placed above the others adds its weight. -/
theorem toNat_or_shiftLeft (hv : v.toNat < 2 ^ n) (hw : w.toNat * 2 ^ n < 2 ^ 64) :
    (v ||| w <<< n).toNat = v.toNat + 2 ^ n * w.toNat := by
  rw [BitVec.toNat_or, BitVec.toNat_shiftLeft, Nat.shiftLeft_eq, Nat.mod_eq_of_lt hw, Nat.or_comm, Nat.mul_comm,
    ← Nat.two_pow_add_eq_or_of_lt hv, Nat.add_comm]

theorem toNat_or_bitAt (b : Bool) (hv : v.toNat < 2 ^ n) (hn : n < 64) :
    (v ||| bitAt b n).toNat = v.toNat + 2 ^ n * b.toNat := by
  have hbit : ((BitVec.ofBool b).setWidth 64 : Value).toNat = b.toNat := by cases b <;> rfl
  have hfits : b.toNat * 2 ^ n < 2 ^ 64 := by
    have hpow : 2 ^ n < 2 ^ 64 := Nat.pow_lt_pow_right (by decide) hn
    cases b with
    | false => simp
    | true => rwa [Bool.toNat_true, Nat.one_mul]
  rw [bitAt, toNat_or_shiftLeft hv (hbit.symm ▸ hfits), hbit]

theorem toNat_bitAt_zero (b : Bool) : (bitAt b 0).toNat = b.toNat := by cases b <;> rfl

theorem toNat_capsValue (c : Config) : (capsValue c).toNat = c.omitsChecksum.toNat + 2 * c.hwAck.toNat +
    4 * c.addrFilter.toNat + 8 * (c.ackPolicy == .synthesizeAck).toNat + 16 * c.matchMonitor.toNat := by
  have h0 := toNat_bitAt_zero c.omitsChecksum
  have l0 := c.omitsChecksum.toNat_le
  have h1 := toNat_or_bitAt (v := bitAt c.omitsChecksum 0) (n := 1) c.hwAck (by omega) (by decide)
  have l1 := c.hwAck.toNat_le
  have h2 := toNat_or_bitAt (n := 2) c.addrFilter (by rw [h1]; omega) (by decide)
  have l2 := c.addrFilter.toNat_le
  have h3 := toNat_or_bitAt (n := 3) (c.ackPolicy == .synthesizeAck) (by rw [h2, h1]; omega) (by decide)
  have l3 := (c.ackPolicy == .synthesizeAck).toNat_le
  have h4 := toNat_or_bitAt (n := 4) c.matchMonitor (by rw [h3, h2, h1]; omega) (by decide)
  rw [capsValue, h4, h3, h2, h1, h0]
  rfl

theorem toNat_statusValue (s : State) :
    s.statusValue.toNat = s.life.bits.toNat + 4 * s.fatalCause.bits.toNat + 16 * s.wqBusy.toNat := by
  have hlife : (s.life.bits.setWidth 64).toNat = s.life.bits.toNat := BitVec.toNat_setWidth_of_le (by decide)
  have hcause : (s.fatalCause.bits.setWidth 64).toNat = s.fatalCause.bits.toNat := BitVec.toNat_setWidth_of_le (by decide)
  have l0 := s.life.bits.isLt
  have l1 := s.fatalCause.bits.isLt
  have h1 := toNat_or_shiftLeft (v := s.life.bits.setWidth 64) (w := s.fatalCause.bits.setWidth 64) (n := 2)
    (by omega) (by omega)
  have h2 := toNat_or_bitAt (n := 4) s.wqBusy (by rw [h1]; omega) (by decide)
  rw [State.statusValue, h2, h1, hlife, hcause]
  rfl

theorem toNat_filterValue {f : Filter} (hf : s.filter = some f) :
    s.filterValue.toNat = f.pan.toNat + 2 ^ 16 * f.short.toNat + 2 ^ 32 := by
  have hpan : (f.pan.setWidth 64).toNat = f.pan.toNat := BitVec.toNat_setWidth_of_le (by decide)
  have hshort : (f.short.setWidth 64).toNat = f.short.toNat := BitVec.toNat_setWidth_of_le (by decide)
  have l0 := f.pan.isLt
  have l1 := f.short.isLt
  have h1 := toNat_or_shiftLeft (v := f.pan.setWidth 64) (w := f.short.setWidth 64) (n := 16) (by omega) (by omega)
  have h2 := toNat_or_bitAt (n := 32) true (by rw [h1]; omega) (by decide)
  simp only [State.filterValue, hf]
  rw [h2, h1, hpan, hshort]
  rfl

theorem toNat_ctrlValue (gen : Byte) (i : Iface) : (ctrlValue gen i).toNat =
    1 + 2 * (i.type == .monitor).toNat + 4 * i.coord.toNat + 256 * gen.toNat := by
  have hgen : (gen.setWidth 64).toNat = gen.toNat := BitVec.toNat_setWidth_of_le (by decide)
  have h0 := toNat_bitAt_zero true
  have l0 := true.toNat_le
  have h1 := toNat_or_bitAt (v := bitAt true 0) (n := 1) (i.type == .monitor) (by omega) (by decide)
  have l1 := (i.type == .monitor).toNat_le
  have h2 := toNat_or_bitAt (n := 2) i.coord (by rw [h1]; omega) (by decide)
  have l2 := i.coord.toNat_le
  have l3 := gen.isLt
  have h3 := toNat_or_shiftLeft (w := gen.setWidth 64) (n := 8) (by rw [h2, h1]; omega) (by omega)
  rw [ctrlValue, h3, h2, h1, h0, hgen]
  rfl

theorem toNat_append_byte {m : Nat} (x : BitVec m) (y : Byte) : (x ++ y).toNat = 256 * x.toNat + y.toNat := by
  rw [BitVec.toNat_append, Nat.shiftLeft_eq, Nat.mul_comm, ← Nat.two_pow_add_eq_or_of_lt y.isLt]

theorem toNat_longValue (a : LongAddr) : (longValue a).toNat = longNumber a := by
  unfold longValue le64 longNumber
  simp only [toNat_append_byte]
  omega

section
variable (hreg : regOfByte b = some r)
include hreg

/-- A device register reads as the number its value is. -/
theorem exec_cfgRead_device_number (hv : s.devReg r = some v) (hn : v.toNat = n) :
    exec (.cfgRead h b) s = .next (s.replied (0#8 :: valueBytes (BitVec.ofNat 64 n))) := by
  rw [exec_cfgRead_device hreg hv, ← hn, BitVec.ofNat_toNat, BitVec.setWidth_eq]
  rfl

/-- An interface register of a valid handle likewise. -/
theorem exec_cfgRead_iface_number (hdev : s.devReg r = none) (hrun : s.running = true) (hi : s.ifaceOf h = some i)
    (hv : i.reg h.gen r = some v) (hn : v.toNat = n) :
    exec (.cfgRead h b) s = .next (s.replied (0#8 :: valueBytes (BitVec.ofNat 64 n))) := by
  rw [exec_cfgRead_iface hreg hdev hrun hi hv, ← hn, BitVec.ofNat_toNat, BitVec.setWidth_eq]
  rfl

end

theorem toNat_life_bits (l : Life) : l.bits.toNat =
    if l = .live then 0 else if l = .draining then 1 else if l = .released then 2 else 3 := by
  cases l <;> rfl

theorem toNat_cause_bits (c : FatalCause) : c.bits.toNat = if c = .none then 0 else if c = .nonEmptyFree then 1 else 2 := by
  cases c <;> rfl

theorem toNat_wqBusy (s : State) : s.wqBusy.toNat = if s.work = .idle then 0 else 1 := by
  split
  next hidle => rw [State.wqBusy_eq_false.2 hidle]; rfl
  next hbusy => rw [Bool.not_eq_false _ |>.mp (mt State.wqBusy_eq_false.1 hbusy)]; rfl

theorem toNat_beq {α : Type} [DecidableEq α] (x y : α) : (x == y).toNat = if x = y then 1 else 0 := by
  by_cases h : x = y <;> simp [h]

/-- A count shows its low 8 bits (log 25). -/
theorem toNat_count (n : Nat) : ((BitVec.ofNat 8 n).setWidth 64).toNat = n % 256 := by
  rw [BitVec.toNat_setWidth_of_le (by decide), BitVec.toNat_ofNat]

/-- Settles O32: each register by the number its value is. -/
theorem cfgReadValues : Obligations.CfgReadValues := by
  intro h s reads
  have hshort (v : Half) : (v.setWidth 64).toNat = v.toNat := BitVec.toNat_setWidth_of_le (by decide)
  have hbyte (v : Byte) : (v.setWidth 64).toNat = v.toNat := BitVec.toNat_setWidth_of_le (by decide)
  refine ⟨fun b hb => exec_cfgRead_badRegister (regOfByte_eq_none fun r hr => hb ?_), ?_, ?_, ?_, fun f hf => ⟨?_, ?_⟩,
    fun hf => ⟨?_, ?_⟩, ?_, ?_, ?_, ?_, fun i hrun hi => ⟨?_, ?_, ?_, ?_, ?_, ?_, ?_, ?_⟩⟩
  · rw [hr]
    cases r <;> decide
  · exact exec_cfgRead_device_number (r := .devCaps) rfl rfl (by rw [toNat_capsValue, toNat_beq])
  · exact exec_cfgRead_device_number (r := .devStatus) rfl rfl
      (by rw [toNat_statusValue, toNat_life_bits, toNat_cause_bits, toNat_wqBusy])
  · exact exec_cfgRead_device_number (r := .devChannel) rfl rfl (hbyte _)
  · exact exec_cfgRead_device_number (r := .devFilter) rfl rfl (toNat_filterValue hf)
  · exact exec_cfgRead_device_number (r := .devFilterLong) rfl rfl
      (by simp only [State.filterLongValue, hf]; exact toNat_longValue f.long)
  · exact exec_cfgRead_device_number (r := .devFilter) rfl rfl (by simp only [State.filterValue, hf]; rfl)
  · exact exec_cfgRead_device_number (r := .devFilterLong) rfl rfl (by simp only [State.filterLongValue, hf]; rfl)
  · exact exec_cfgRead_device_number (r := .devIfcount) rfl rfl (by rw [toNat_count, length_boundSlots])
  · exact exec_cfgRead_device_number (r := .devWqlen) rfl rfl (toNat_count _)
  · exact exec_cfgRead_device (r := .cntBadcsum) rfl rfl
  · exact exec_cfgRead_device (r := .cntMalformed) rfl rfl
  · exact exec_cfgRead_iface_number (r := .ifCtrl) rfl rfl hrun hi rfl (by rw [toNat_ctrlValue, toNat_beq])
  · exact exec_cfgRead_iface_number (r := .ifPan) rfl rfl hrun hi rfl (hshort _)
  · exact exec_cfgRead_iface_number (r := .ifShort) rfl rfl hrun hi rfl (hshort _)
  · exact exec_cfgRead_iface_number (r := .ifChannel) rfl rfl hrun hi rfl (hbyte _)
  · exact exec_cfgRead_iface_number (r := .ifHwaddr) rfl rfl hrun hi rfl (toNat_longValue _)
  · exact exec_cfgRead_iface_number (r := .ifBcast) rfl rfl hrun hi rfl (toNat_longValue _)
  · exact exec_cfgRead_iface_number (r := .ifDsn) rfl rfl hrun hi rfl (hbyte _)
  · exact exec_cfgRead_iface_number (r := .ifBsn) rfl rfl hrun hi rfl (hbyte _)

end Sys2Proof.Machine

/-! ## Reset, the schedule, and what each instruction leaves unchanged -/

namespace Sys2Proof.Machine

variable {s t u : State} {a : Agent} {m : Move} {i : Instr} {k n : Nat} {h : Handle} {bs : List Byte}

/-! ### The move of a step -/

/-- R7, R70: a step is what its move does. -/
theorem step_of_turn (hturn : s.turn = (some m, u)) : step s = perform m u := by
  simp only [step, hturn]

/-- A scheduled move that is enabled is made (log 1). -/
theorem turn_of_sched {p : Pick} {ps : List Pick} (hsched : s.sched = p :: ps) (hmem : p.move ∈ s.moves) :
    s.turn = (some p.move, { s with sched := ps, burst := p.burst }) := by
  simp only [State.turn, hsched, List.contains_iff_mem, hmem, if_true]

theorem reset_mem_moves : Move.reset ∈ s.moves ↔ s.resetIn = true := by
  refine mem_moves.trans ⟨fun h => ?_, fun h => .inl ⟨rfl, h⟩⟩
  obtain ⟨-, h⟩ | ⟨h, -⟩ | ⟨h, -⟩ | ⟨-, h⟩ := h
  · exact h
  · cases h
  · cases h
  · simpa using agentMoves_agent h

/-- Settles O49: the reset values as `resetWith` has them, and the scheduled reset as the move made. -/
theorem resetValues : Obligations.ResetValues := by
  refine ⟨fun c => ?_, fun s => ⟨reset_mem_moves, fun b ps hreset hsched => ?_⟩⟩
  · exact ⟨rfl, rfl, rfl, rfl, rfl, rfl, rfl, rfl, rfl, rfl, List.length_replicate, fun sl => List.eq_of_mem_replicate, rfl,
      rfl, rfl, rfl⟩
  · rw [step_of_turn (turn_of_sched hsched (reset_mem_moves.2 hreset))]
    rfl

/-- R110: the command at the head of CMD is run as the next ticket. -/
theorem perform_cmd {queue : List (List Byte)} (hhead : s.cmdIn = bs :: queue) (hdecode : decode .cmd bs = .ok i) :
    perform .cmd s = exec i { s with cmdIn := queue, ticket := s.ticket + 1 } := by
  change takeCommand s = _
  simp only [takeCommand, hhead, runCommand, hdecode]

theorem turnRx_pattern {c : RxCtx} {hd : HandleCtx} {rest : List HandleCtx} (hat : s.atDispatch = some (c, hd, rest))
    (hdecode : decodeFc hd.copy.md.fc = .ok i) : turnRx s = exec i s := by
  simp only [turnRx, hat, hdecode]

theorem turnRx_no_pattern (hnone : ∀ c hd rest i, s.atDispatch = some (c, hd, rest) → decodeFc hd.copy.md.fc ≠ .ok i) :
    turnRx s = runRx s := by
  cases hat : s.atDispatch with
  | none => simp only [turnRx, hat]
  | some d =>
    obtain ⟨c, hd, rest⟩ := d
    cases hdecode : decodeFc hd.copy.md.fc with
    | ok i => exact absurd hdecode (hnone c hd rest i hat)
    | error e => simp only [turnRx, hat, hdecode]

/-- Settles O50: each move by what `perform` gives it. -/
theorem stepRunsDecoded : Obligations.StepRunsDecoded := by
  refine ⟨fun s u bs queue i hturn hhead hdecode => ?_, fun s u j c h rest i hturn hat hdecode => ?_,
    fun s u j hturn hnone => ?_, fun s u j hturn => step_of_turn hturn, fun s u k hturn => step_of_turn hturn,
    fun s u j hturn => step_of_turn hturn, fun s u m hturn => step_of_turn hturn, fun s u hturn => ?_,
    fun s p ps hsched hmem => turn_of_sched hsched hmem⟩
  · rw [step_of_turn hturn, perform_cmd hhead hdecode]
  · exact (step_of_turn hturn).trans (turnRx_pattern hat hdecode)
  · have hburst : (u.focusRx j).burst = u.burst := by rw [focusRx_frame, State.setRx_burst]
    rw [step_of_turn hturn, ← hburst]
    exact turnRx_no_pattern hnone
  · simp only [step, hturn]

/-- Settles O53: no move is enabled, so the schedule's first entry is skipped. -/
theorem idleWithoutInput : Obligations.IdleWithoutInput := by
  intro s hreset hcmd hphy hrx htx hhost hwq hwork
  have hmoves : s.moves = [] := by
    simp [State.moves, hreset, State.cmdReady, hcmd, State.phyReady, hphy, State.hostMoves, hhost, State.rxMoves, hrx,
      State.txMoves, htx, State.workMoves, hwork, hwq]
  cases hsched : s.sched with
  | nil =>
    have hsame : s = { s with sched := [] } := by rw [← hsched]
    have hturn : s.turn = (none, s) := by simp [State.turn, hsched, hmoves]
    rw [List.tail_nil, ← hsame]
    simp only [step, hturn]
  | cons p ps => simp [step, State.turn, hsched, hmoves]

end Sys2Proof.Machine

/-! ## What each instruction leaves unchanged, for every burst -/

namespace Sys2Proof.Machine

variable {s t u : State} {i : Instr} {k m n : Nat} {h : Handle} {type : Byte} {f : Iface}

/-! ### The HOST agent -/

theorem unlink_slots_ne (hmn : m ≠ n) (s : State) : (s.unlink n).slots[m]? = s.slots[m]? := by
  unfold State.unlink
  split
  · exact List.getElem?_set_ne hmn.symm
  · rfl

theorem vacate_slots_ne (hmn : m ≠ n) (s : State) : (s.vacate n).slots[m]? = s.slots[m]? := by
  unfold State.vacate
  split
  · exact List.getElem?_set_ne hmn.symm
  · rfl

/-- Only slots that were bound have been written, and only such a one is awaited. -/
structure UnlinksBound (s t : State) : Prop where
  slots : ∀ m, m ∉ s.boundSlots → t.slots[m]? = s.slots[m]?
  awaited : ∀ n, t.host.awaited = some n → n ∈ s.boundSlots

theorem UnlinksBound.bound (h : UnlinksBound s t) (hn : n ∈ t.boundSlots) : n ∈ s.boundSlots := by
  by_contra hnot
  refine hnot ?_
  rw [State.mem_boundSlots] at hn ⊢
  rwa [h.slots n hnot] at hn

theorem UnlinksBound.micro (e : Micro .host t u) (h : UnlinksBound s t) : UnlinksBound s u := by
  cases e.host_cases with
  | waits => exact h
  | @removed k n hat =>
    have hn := h.awaited n (by rw [hat]; rfl)
    exact ⟨fun m hm => (vacate_slots_ne (ne_of_mem_of_not_mem hn hm).symm t).trans (h.slots m hm), fun n hn => by cases hn⟩
  | drains => exact ⟨h.slots, fun n hn => by cases hn⟩
  | @unlinks k n hat hbound =>
    have hn := h.bound hbound
    refine ⟨fun m hm => (unlink_slots_ne (ne_of_mem_of_not_mem hn hm).symm t).trans (h.slots m hm), fun n' hn' => ?_⟩
    cases hn'
    exact hn
  | @unlinked k n hat =>
    have hn := h.awaited n (by rw [hat]; rfl)
    exact ⟨fun m hm => (vacate_slots_ne (ne_of_mem_of_not_mem hn hm).symm t).trans (h.slots m hm), fun n hn => by cases hn⟩
  | settles => exact ⟨h.slots, fun n hn => by cases hn⟩
  | releases => exact ⟨h.slots, fun n hn => by cases hn⟩
  | released => exact ⟨h.slots, fun n hn => by cases hn⟩

/-- R225: the waits that are left once no interface is (and after them none). -/
def HostStage.late : HostStage → Bool
  | .draining _ | .settling _ | .releasing _ | .idle => true
  | .removing _ _ | .unregistering _ | .unlinking _ _ => false

/-- R228: the late waits write no slot. -/
theorem slots_of_late (e : Micro .host t u) (h : t.host.late = true ∧ t.slots = s.slots) :
    u.host.late = true ∧ u.slots = s.slots := by
  obtain ⟨hlate, hslots⟩ := h
  cases e.host_cases with
  | waits => exact ⟨hlate, hslots⟩
  | removed hat => rw [hat] at hlate; cases hlate
  | drains => exact ⟨rfl, hslots⟩
  | unlinks hat => rw [hat] at hlate; cases hlate
  | unlinked hat => rw [hat] at hlate; cases hlate
  | settles => exact ⟨rfl, hslots⟩
  | releases => exact ⟨rfl, hslots⟩
  | released => exact ⟨rfl, hslots⟩

/-! ### A TX agent -/

/-- R304: below 8 the type field keeps the type. -/
theorem setWidth_eq_zero (htype : type.toNat < 8) : type.setWidth 3 = 0#3 ↔ type = 0#8 := by
  simp only [← BitVec.toNat_inj, BitVec.toNat_setWidth, BitVec.toNat_ofNat]
  omega

theorem bumped_setWidth (f : Iface) (htype : type.toNat < 8) : f.bumped (type.setWidth 3) = f.taken type := by
  simp only [Iface.bumped, Iface.taken, setWidth_eq_zero htype]

/-- The call `k` uses the interface `f` of `h` once: a frame type, and the bank before and after its fetch-and-increment. -/
structure TakesOnce (s : State) (k : Nat) (h : Handle) (type : BitVec 3) (f : Iface) (t : State) : Prop where
  call : ∀ c ∈ t.tx, c.k = k → c.h = h ∧ c.type = type
  slots : t.slots = s.slots ∨ t.slots = s.slots.set h.slot.toNat ⟨h.gen, .bound (f.bumped type)⟩ ∧
    ∀ c ∈ t.tx, c.k = k → c.stage ≠ .snapped

/-- The call goes on with another stage. -/
theorem TakesOnce.map {type : BitVec 3} (hs : TakesOnce s k h type f t) {g : TxCtx → TxCtx}
    (hg : ∀ c, (g c).k = c.k ∧ (g c).h = c.h ∧ (g c).type = c.type) (hstage : ∀ c, c.k = k → (g c).stage ≠ .snapped)
    (hslots : u.slots = t.slots) (htx : u.tx = t.tx.map g) : TakesOnce s k h type f u := by
  refine ⟨fun c hc hk => ?_, hs.slots.imp hslots.trans fun ⟨hset, _⟩ => ⟨hslots.trans hset, fun c hc hk => ?_⟩⟩
  · rw [htx] at hc
    obtain ⟨d, hd, rfl⟩ := List.mem_map.1 hc
    obtain ⟨hgk, hgh, hgtype⟩ := hg d
    rw [hgh, hgtype]
    exact hs.call d hd (hgk ▸ hk)
  · rw [htx] at hc
    obtain ⟨d, hd, rfl⟩ := List.mem_map.1 hc
    exact hstage d ((hg d).1 ▸ hk)

theorem TakesOnce.micro {type : BitVec 3} (hf : s.ifaceOf h = some f) (e : Micro (.tx k) t u)
    (hs : TakesOnce s k h type f t) : TakesOnce s k h type f u := by
  cases e.tx_cases with
  | waits => exact hs
  | @numbered c i hcall hat hi =>
    obtain ⟨hh, htype⟩ := hs.call c (List.mem_of_find?_eq_some hcall) (txCall_ticket hcall)
    have hslots : t.slots = s.slots := by
      refine hs.slots.resolve_right fun ⟨_, hstage⟩ => ?_
      exact hstage c (List.mem_of_find?_eq_some hcall) (txCall_ticket hcall) hat
    subst hh htype
    have hif : i = f := by
      rw [State.ifaceOf_congr c.h hslots] at hi
      exact Option.some.inj (hi.symm.trans hf)
    subst hif
    refine ⟨fun d hd hk => ?_, .inr ⟨by rw [← hslots]; rfl, fun d hd hk => ?_⟩⟩
    · obtain ⟨d', hd', rfl⟩ := List.mem_map.1 hd
      split at hk
      next hk' => simpa [hk'] using hs.call d' hd' hk'
      next hk' => exact absurd hk hk'
    · obtain ⟨d', hd', rfl⟩ := List.mem_map.1 hd
      split at hk
      next hk' => simp [hk']
      next hk' => exact absurd hk hk'
  | built hcall hat b =>
    refine hs.map (fun c => ?_) (fun c hk => ?_) rfl rfl
    · split <;> exact ⟨rfl, rfl, rfl⟩
    · simp [hk]
  | queued hcall hat =>
    refine hs.map (fun c => ?_) (fun c hk => ?_) rfl rfl
    · split <;> exact ⟨rfl, rfl, rfl⟩
    · simp [hk]
  | ended hcall hat =>
    have hsub : ∀ c ∈ t.tx.filter (fun c => c.k != k), c ∈ t.tx := fun c hc => List.mem_of_mem_filter hc
    exact ⟨fun c hc => hs.call c (hsub c hc),
      hs.slots.imp_right fun ⟨hset, hstage⟩ => ⟨hset, fun c hc => hstage c (hsub c hc)⟩⟩

/-! ### The instructions -/

theorem Replies.frame (hr : Replies i s) (he : exec i s = .next t) : t = { s with out := t.out } := by
  obtain ⟨bytes, hr⟩ := hr
  cases hr.symm.trans he
  rfl

theorem ifAdd_frame {hw : LongAddr} (he : exec (.ifAdd type hw) s = .next t) :
    t = { s with slots := t.slots, seqs := t.seqs, drawn := t.drawn, out := t.out } ∧
      (∀ n : Nat, s.freeSlot = some n → ∀ m : Nat, m ≠ n → t.slots[m]? = s.slots[m]?) ∧
      (s.freeSlot = none ∨ 1 < type.toNat ∨ s.life ≠ .live →
        t.slots = s.slots ∧ t.seqs = s.seqs ∧ t.drawn = s.drawn) := by
  by_cases htype : 1 < type.toNat
  · cases (exec_ifAdd_badOperand htype).symm.trans he
    exact ⟨rfl, fun _ _ _ _ => rfl, fun _ => ⟨rfl, rfl, rfl⟩⟩
  by_cases hlive : s.life = .live
  case neg =>
    cases (exec_ifAdd_gone (Nat.not_lt.1 htype) hlive).symm.trans he
    exact ⟨rfl, fun _ _ _ _ => rfl, fun _ => ⟨rfl, rfl, rfl⟩⟩
  cases hfree : s.freeSlot with
  | none =>
    cases (exec_ifAdd_tableFull (Nat.not_lt.1 htype) hlive hfree).symm.trans he
    exact ⟨rfl, fun _ _ _ _ => rfl, fun _ => ⟨rfl, rfl, rfl⟩⟩
  | some n =>
    cases (exec_ifAdd_created (Nat.not_lt.1 htype) hlive hfree).symm.trans he
    rw [State.create_eq]
    refine ⟨rfl, fun n' hn' m hm => ?_, fun hrefused => ?_⟩
    · cases hn'
      exact List.getElem?_set_ne hm.symm
    · simp [htype, hlive] at hrefused

theorem cfgWrite_frame {r : Byte} {v : Value} (he : exec (.cfgWrite h r v) s = .next t) :
    t = { s with slots := t.slots, wq := t.wq, out := t.out } ∧
      ∀ m : Nat, m ≠ h.slot.toNat → t.slots[m]? = s.slots[m]? := by
  obtain ⟨bytes, hreply⟩ | ⟨reg, hreg, hrw, i, hlive, hi, hroom⟩ := replies_or_cfgWrite h r v s
  · cases hreply.symm.trans he
    exact ⟨rfl, fun _ _ => rfl⟩
  · cases (exec_cfgWrite_writes hreg hrw hlive hi hroom).symm.trans he
    rw [writeReg_eq]
    exact ⟨rfl, fun m hm => List.getElem?_set_ne hm.symm⟩

theorem ifRemove_frame (he : exec (.ifRemove h) s = .next t) :
    t = { s with slots := t.slots, host := t.host, out := t.out } ∧
      ∀ m : Nat, m ≠ h.slot.toNat → t.slots[m]? = s.slots[m]? := by
  obtain ⟨hgone, hstale, haccepted⟩ := ifRemoveAnswers.1 h s
  by_cases hlive : s.life = .live
  case neg =>
    cases (hgone hlive).symm.trans he
    exact ⟨rfl, fun _ _ => rfl⟩
  cases hi : s.ifaceOf h with
  | none =>
    cases (hstale hlive hi).symm.trans he
    exact ⟨rfl, fun _ _ => rfl⟩
  | some i =>
    obtain ⟨hwaits, hremoved, -⟩ := haccepted i hlive hi
    by_cases hwait : s.burst = 0 ∨ s.holds h.slot.toNat = true
    · cases (hwaits hwait).symm.trans he
      exact ⟨rfl, fun m hm => List.getElem?_set_ne hm.symm⟩
    · rw [not_or, Bool.not_eq_true] at hwait
      cases (hremoved hwait.1 hwait.2).symm.trans he
      exact ⟨rfl, fun m hm => List.getElem?_set_ne hm.symm⟩

theorem devUnregister_frame (he : exec .devUnregister s = .next t) :
    t = { s with life := t.life, slots := t.slots, host := t.host, out := t.out } ∧
      (∀ m : Nat, m ∉ s.boundSlots → t.slots[m]? = s.slots[m]?) ∧ (s.life ≠ .live → t.slots = s.slots) := by
  by_cases hlive : s.life = .live
  case neg =>
    cases (exec_devUnregister_gone hlive).symm.trans he
    exact ⟨rfl, fun _ _ => rfl, fun _ => rfl⟩
  cases (exec_devUnregister_drains hlive).symm.trans he
  have hrun := run_advanceHost s.burst (({ s with life := .draining } : State).setHost (.unregistering s.ticket))
  have hslots := hrun.keeps (P := UnlinksBound s) (fun e h => h.micro e) ⟨fun _ _ => rfl, fun n hn => by cases hn⟩
  have hframe := run_host_frame hrun
  exact ⟨hframe, hslots.slots, fun hne => absurd hlive hne⟩

theorem devFree_frame (he : exec .devFree s = .next t) :
    t = { s with life := t.life, fatalCause := t.fatalCause, host := t.host, out := t.out } := by
  by_cases hlive : s.life = .live
  case neg =>
    cases (exec_devFree_gone hlive).symm.trans he
    rfl
  by_cases hvacant : s.boundSlots = []
  case neg =>
    cases (exec_devFree_fatal hlive hvacant).symm.trans he
    rfl
  cases (exec_devFree_drains hlive hvacant).symm.trans he
  have hrun := run_advanceHost s.burst (({ s with life := .draining } : State).setHost (.draining s.ticket))
  obtain ⟨-, hslots⟩ := hrun.keeps (P := fun t => t.host.late = true ∧ t.slots = s.slots) slots_of_late ⟨rfl, rfl⟩
  have hframe := run_host_frame hrun
  rw [State.HostFrame, hslots] at hframe
  rw [hframe]
  rfl

theorem txFrame_frame {sec ackreq : Bool} {dst : Address} {src : Option Address} {payload : List Byte}
    (hfresh : ∀ c ∈ s.tx, c.k ≠ s.ticket) (he : exec (.txFrame h type sec ackreq dst src payload) s = .next t) :
    t = { s with slots := t.slots, wq := t.wq, tx := t.tx, out := t.out } ∧
      (t.slots = s.slots ∨ ∃ f, s.ifaceOf h = some f ∧
        t.slots = s.slots.set h.slot.toNat ⟨h.gen, .bound (f.taken type)⟩) := by
  obtain ⟨bytes, hreply⟩ | ⟨href, hlive, f, hf, hchannel, hfits⟩ := replies_or_txFrame h type sec ackreq dst src payload s
  · cases hreply.symm.trans he
    exact ⟨rfl, .inl rfl⟩
  cases (exec_txFrame_opens href hlive hf hchannel hfits).symm.trans he
  have hrun := run_advanceTx s.ticket s.burst
    (s.setTx (s.tx ++ [TxCtx.opened s.ticket h type ackreq dst src payload f.snap]))
  have hframe := run_tx_frame hrun
  refine ⟨hframe, ?_⟩
  have htakes := hrun.keeps (P := TakesOnce s s.ticket h (type.setWidth 3) f) (fun e hs => hs.micro hf e)
    ⟨fun c hc hk => ?_, .inl rfl⟩
  · obtain ⟨-, -, -, htype⟩ := frameRefusal_eq_none.1 href
    refine htakes.slots.imp_right fun ⟨hset, _⟩ => ⟨f, hf, ?_⟩
    rwa [bumped_setWidth f (by omega)] at hset
  · obtain hc | hc := List.mem_append.1 hc
    · exact absurd hk (hfresh c hc)
    · cases List.mem_singleton.1 hc
      exact ⟨rfl, rfl⟩

/-- Settles O48: an instruction at a time. -/
theorem instructionFrames : Obligations.InstructionFrames := by
  refine fun s t => ⟨fun i hi he => ?_, fun type hw => ifAdd_frame, fun h r v => cfgWrite_frame, fun h => ifRemove_frame,
    devUnregister_frame, devFree_frame, fun h type sec ackreq dst src payload hfresh he => ?_, fun i hi he => ?_⟩
  · refine Replies.frame ?_ he
    obtain ⟨bs, rfl | rfl | rfl | rfl⟩ | ⟨seq, rfl⟩ | ⟨h, r, rfl⟩ | ⟨h, dst, mode, rfl⟩ |
      ⟨h, type, sec, ackreq, seq, dst, src, rfl⟩ := hi
    · exact replies_decodeHdr bs s
    · exact replies_crcCompute bs s
    · exact replies_crcAppend bs s
    · exact replies_crcVerify bs s
    · exact replies_buildAck seq s
    · exact replies_cfgRead h r s
    · exact replies_classify h dst mode s
    · exact replies_encodeHdr h type sec ackreq seq dst src s
  · obtain ⟨hframe, hslots⟩ := txFrame_frame hfresh he
    refine ⟨hframe, fun m hm => ?_, hslots⟩
    obtain hslots | ⟨f, -, hslots⟩ := hslots
    · rw [hslots]
    · rw [hslots, List.getElem?_set_ne hm.symm]
  · obtain ⟨bs, rfl⟩ | ⟨tt, f, rfl | rfl | rfl | rfl | rfl⟩ := hi
    · cases hrun : s.running with
      | false =>
        cases (exec_rxFrame_gone hrun).symm.trans he
        rfl
      | true => exact advanceRx_frame (s := s.startRx (.command s.ticket) bs) ((exec_rxFrame_starts hrun).symm.trans he)
    · exact State.dispatchBy_frame (d := dispatchBeacon) (fun _ => rfl) he
    · exact State.dispatchBy_frame (d := dispatchData) (fun _ => rfl) he
    · exact State.dispatchBy_frame (d := dispatchAck) (fun _ => rfl) he
    · exact State.dispatchBy_frame (d := dispatchMaccmd) (fun _ => rfl) he
    · exact State.dispatchBy_frame (d := dispatchUnrecognized (1#1 ++ tt).toNat) (fun _ => rfl) he

end Sys2Proof.Machine

/-! ## TX_FRAME: the steps of a call, the transmit buffer, and the whole call -/

namespace Sys2Proof.Machine

variable {s t u : State} {k n : Nat} {c : TxCtx} {i : Iface} {hdr payload front frame rest : List Byte} {seq : Byte}

/-! ### The transmit buffer (R44, R306, R308) -/

/-- The frame is what stands between the two cursors. -/
theorem TxBuf.frame_of_buf {t : TxBuf} (hbuf : t.buf = front ++ frame ++ rest) (hstart : t.start = front.length)
    (hstop : t.stop = front.length + frame.length) : t.frame = frame := by
  rw [TxBuf.frame, hbuf, hstart, hstop, ← List.length_append, List.take_left, List.drop_left]

/-- Writing behind a front part replaces as many bytes of the rest. -/
theorem memWrite_behind (front rest v : List Byte) :
    memWrite (front ++ rest) front.length v = front ++ v ++ rest.drop v.length := by
  rw [memWrite, List.take_left, ← List.drop_drop, List.drop_left]

/-- R306: the header directly before the payload, which begins at offset 23. -/
theorem TxBuf.build_buf (hhdr : hdr.length ≤ 23) (payload : List Byte) : ∃ rest,
    (TxBuf.build hdr payload).buf = List.replicate (23 - hdr.length) 0#8 ++ (hdr ++ payload) ++ rest := by
  have hfresh : TxBuf.fresh.buf = List.replicate 23 0#8 ++ List.replicate 127 0#8 := by
    rw [List.replicate_append_replicate]
    rfl
  have hfront : List.replicate 23 (0#8 : Byte) = List.replicate (23 - hdr.length) 0#8 ++ List.replicate hdr.length 0#8 := by
    rw [List.replicate_append_replicate, Nat.sub_add_cancel hhdr]
  have hpayload : memWrite TxBuf.fresh.buf 23 payload =
      List.replicate 23 0#8 ++ payload ++ (List.replicate 127 0#8).drop payload.length := by
    rw [hfresh, ← memWrite_behind, List.length_replicate]
  refine ⟨(List.replicate 127 0#8).drop payload.length, ?_⟩
  have hheader := memWrite_behind (List.replicate (23 - hdr.length) 0#8)
    (List.replicate hdr.length 0#8 ++ (payload ++ (List.replicate 127 0#8).drop payload.length)) hdr
  rw [List.length_replicate, List.drop_left' List.length_replicate] at hheader
  simp only [TxBuf.build, hdrMax, hpayload, hfront, List.append_assoc] at hheader ⊢
  exact hheader

theorem TxBuf.frame_build (hhdr : hdr.length ≤ 23) (payload : List Byte) :
    (TxBuf.build hdr payload).frame = hdr ++ payload := by
  obtain ⟨rest, hbuf⟩ := TxBuf.build_buf hhdr payload
  refine TxBuf.frame_of_buf hbuf (by simp [TxBuf.build, hdrMax]) ?_
  simp only [TxBuf.build, hdrMax, List.length_replicate, List.length_append]
  omega

/-- R308: the checksum of the frame stands behind it. -/
theorem TxBuf.frame_withChecksum (hhdr : hdr.length ≤ 23) (payload : List Byte) :
    (TxBuf.build hdr payload).withChecksum.frame = hdr ++ payload ++ halfBytes (crc16 (hdr ++ payload)) := by
  obtain ⟨rest, hbuf⟩ := TxBuf.build_buf hhdr payload
  have hstop : (TxBuf.build hdr payload).stop = (List.replicate (23 - hdr.length) (0#8 : Byte) ++ (hdr ++ payload)).length := by
    simp only [TxBuf.build, hdrMax, List.length_replicate, List.length_append]
    omega
  have hsum := memWrite_behind (List.replicate (23 - hdr.length) (0#8 : Byte) ++ (hdr ++ payload)) rest
    (halfBytes (crc16 (hdr ++ payload)))
  refine TxBuf.frame_of_buf (front := List.replicate (23 - hdr.length) 0#8) (rest := rest.drop 2) ?_ ?_ ?_
  · simp only [TxBuf.withChecksum, TxBuf.frame_build hhdr, hstop, hbuf, hsum]
    simp only [List.append_assoc, halfBytes_length]
  · simp [TxBuf.withChecksum, TxBuf.build, hdrMax]
  · simp only [TxBuf.withChecksum, hstop, List.length_append, halfBytes_length, fcsLen]
    omega

/-- Steps 5 and 6: what the call hands over is header, payload and checksum, from `23 - hdr_len` on. -/
theorem TxCtx.assemble_spec (c : TxCtx) (cfg : Config) (seq : Byte) :
    let hdr := c.header seq
    let sum := checksumBytes cfg (hdr ++ c.payload)
    (c.assemble cfg seq).start = 23 - hdr.length ∧ (c.assemble cfg seq).stop = 23 + c.payload.length + sum.length ∧
      (c.assemble cfg seq).frame = hdr ++ c.payload ++ sum := by
  have hhdr : (c.header seq).length ≤ 23 := by
    rw [TxCtx.header, length_headerBytes]
    exact (wireLen_bounds ..).2
  unfold TxCtx.assemble checksumBytes
  split
  · exact ⟨rfl, rfl, by rw [TxBuf.frame_build hhdr, List.append_nil]⟩
  · exact ⟨rfl, rfl, TxBuf.frame_withChecksum hhdr _⟩

/-! ### The steps of a call (R304 to R311) -/

section
variable (hcall : s.txCall k = some c)
include hcall

theorem txMicro_snapped (hstage : c.stage = .snapped) : txMicro k s = txNumber c s := by
  simp only [txMicro, hcall, hstage]

theorem txMicro_numbered_ok (hstage : c.stage = .snapped) (hi : s.ifaceOf c.h = some i) : txMicro k s = { s with
    slots := s.slots.set c.h.slot.toNat ⟨c.h.gen, .bound (i.bumped c.type)⟩
    tx := s.tx.map (fun d => if d.k = k then { d with stage := .numbered (i.seqFor c.type) } else d) } := by
  rw [txMicro_snapped hcall hstage, ← txCall_ticket hcall]
  simp only [txNumber, hi]
  rfl

theorem txMicro_numbered_stale (hstage : c.stage = .snapped) (hi : s.ifaceOf c.h = none) : txMicro k s = { s with
    tx := s.tx.filter (fun d => d.k != k), out := s.out ++ [.response k [0x0C#8, 0#8]] } := by
  rw [txMicro_snapped hcall hstage, ← txCall_ticket hcall]
  simp only [txNumber, hi]
  rfl

theorem txMicro_built (hstage : c.stage = .numbered seq) : txMicro k s = { s with
    tx := s.tx.map (fun d => if d.k = k then { d with txc := c.assemble s.cfg seq, stage := .built } else d) } := by
  simp only [txMicro, hcall, hstage]
  rfl

theorem txMicro_handOver (hstage : c.stage = .built) : txMicro k s = txHandOver c s := by
  simp only [txMicro, hcall, hstage]

theorem txMicro_gone (hstage : c.stage = .built) (hlive : s.life ≠ .live) : txMicro k s = { s with
    tx := s.tx.filter (fun d => d.k != k), out := s.out ++ [.response k [0x11#8, 0#8]] } := by
  rw [txMicro_handOver hcall hstage, ← txCall_ticket hcall]
  exact if_neg hlive

theorem txMicro_busy (hstage : c.stage = .built) (hlive : s.life = .live) (hfull : s.cfg.wqDepth ≤ s.wq.length) :
    txMicro k s = { s with
      tx := s.tx.filter (fun d => d.k != k), out := s.out ++ [.response k [7#8, 0#8]] } := by
  rw [txMicro_handOver hcall hstage, ← txCall_ticket hcall]
  exact (if_pos hlive).trans (if_pos (State.wqFull_eq_true.2 hfull))

theorem txMicro_queued (hstage : c.stage = .built) (hlive : s.life = .live) (hroom : s.wq.length < s.cfg.wqDepth) :
    txMicro k s = { s with
      wq := s.wq ++ [.xmit ⟨c.txc.frame, c.snap.channel, .txCall k⟩]
      tx := s.tx.map (fun d => if d.k = k then { d with stage := .waiting } else d) } := by
  rw [txMicro_handOver hcall hstage, ← txCall_ticket hcall]
  exact (if_pos hlive).trans (if_neg (mt State.wqFull_eq_true.1 (Nat.not_le.2 hroom)))

theorem txMicro_waiting (hstage : c.stage = .waiting) : txMicro k s = s := by
  simp only [txMicro, hcall, hstage]

theorem txMicro_completed {r : XmitResult} (hstage : c.stage = .completed r) : txMicro k s = { s with
    tx := s.tx.filter (fun d => d.k != k), out := s.out ++ [.response k (Status.result (Status.ofXmit r))] } := by
  rw [← txCall_ticket hcall] at *
  simp only [txMicro, hcall, hstage]
  rfl

end

/-- Settles O44: the two outcomes of the fetch-and-increment. -/
theorem sequenceFetchIncrement : Obligations.SequenceFetchIncrement :=
  fun _ _ _ hcall hstage => ⟨fun _ hi => txMicro_numbered_ok hcall hstage hi, txMicro_numbered_stale hcall hstage⟩

/-- Settles O60: the buffer is `assemble`'s, and the hand-over has three outcomes. -/
theorem callInFlight : Obligations.CallInFlight := by
  intro s k c hcall
  constructor
  · intro seq hstage hdr sum
    obtain ⟨hstart, hstop, hframe⟩ := c.assemble_spec s.cfg seq
    exact ⟨_, hstart, hstop, hframe, txMicro_built hcall hstage⟩
  · intro hstage refused
    exact ⟨txMicro_gone hcall hstage, txMicro_busy hcall hstage, txMicro_queued hcall hstage⟩

/-- Settles O45: a wait is no step, and each result has its bytes. -/
theorem completionAnswered : Obligations.CompletionAnswered := by
  refine fun s k c hcall => ⟨txMicro_waiting hcall, fun r bytes hstage hbytes => ?_⟩
  have hresult : Status.result (Status.ofXmit r) = bytes := by
    simp only [List.mem_cons, List.not_mem_nil, or_false, Prod.mk.injEq] at hbytes
    obtain ⟨rfl, rfl⟩ | ⟨rfl, rfl⟩ | ⟨rfl, rfl⟩ := hbytes <;> rfl
  rw [txMicro_completed hcall hstage, hresult]

end Sys2Proof.Machine

/-! ## An accepted TX_FRAME in one burst -/

namespace Sys2Proof.Machine

variable {s t u : State} {k n : Nat} {c : TxCtx} {l : List TxCtx} {i : Iface} {type seq : Byte}

/-! ### The call opened last -/

section
variable (hfresh : ∀ d ∈ l, d.k ≠ k)
include hfresh

theorem map_calls_of_fresh (g : TxCtx → TxCtx) : l.map (fun d => if d.k = k then g d else d) = l :=
  (List.map_congr_left (g := id) fun d hd => if_neg (hfresh d hd)).trans (List.map_id l)

variable (hk : c.k = k)
include hk

theorem txCall_last (htx : s.tx = l ++ [c]) : s.txCall k = some c := by
  have hnone : l.find? (fun d => d.k == k) = none := List.find?_eq_none.2 fun d hd => by simpa using hfresh d hd
  simp [State.txCall, htx, List.find?_append, hnone, hk]

theorem map_calls_last (g : TxCtx → TxCtx) :
    (l ++ [c]).map (fun d => if d.k = k then g d else d) = l ++ [g c] := by
  rw [List.map_append, map_calls_of_fresh hfresh, List.map_singleton, if_pos hk]

theorem filter_calls_last : (l ++ [c]).filter (fun d => d.k != k) = l := by
  have hothers : l.filter (fun d => d.k != k) = l := List.filter_eq_self.2 fun d hd => by simpa using hfresh d hd
  rw [List.filter_append, hothers]
  simp [hk]

variable (htx : s.tx = l ++ [c])
include htx

/-- Step 4 of the call opened last (R304). -/
theorem txMicro_last_numbered (hstage : c.stage = .snapped) (hi : s.ifaceOf c.h = some i) : txMicro k s = { s with
    slots := s.slots.set c.h.slot.toNat ⟨c.h.gen, .bound (i.bumped c.type)⟩
    tx := l ++ [{ c with stage := .numbered (i.seqFor c.type) }] } := by
  rw [txMicro_numbered_ok (txCall_last hfresh hk htx) hstage hi, htx, map_calls_last hfresh hk]

/-- Steps 5 and 6 (R306, R308). -/
theorem txMicro_last_built (hstage : c.stage = .numbered seq) : txMicro k s = { s with
    tx := l ++ [{ c with txc := c.assemble s.cfg seq, stage := .built }] } := by
  rw [txMicro_built (txCall_last hfresh hk htx) hstage, htx, map_calls_last hfresh hk]

/-- Step 7 with room in the queue (R310). -/
theorem txMicro_last_queued (hstage : c.stage = .built) (hlive : s.life = .live) (hroom : s.wq.length < s.cfg.wqDepth) :
    txMicro k s = { s with
      wq := s.wq ++ [.xmit ⟨c.txc.frame, c.snap.channel, .txCall k⟩], tx := l ++ [{ c with stage := .waiting }] } := by
  rw [txMicro_queued (txCall_last hfresh hk htx) hstage hlive hroom, htx, map_calls_last hfresh hk]

/-- Step 7 with a full queue (R310). -/
theorem txMicro_last_busy (hstage : c.stage = .built) (hlive : s.life = .live) (hfull : s.cfg.wqDepth ≤ s.wq.length) :
    txMicro k s = { s with tx := l, out := s.out ++ [.response k [7#8, 0#8]] } := by
  rw [txMicro_busy (txCall_last hfresh hk htx) hstage hlive hfull, htx, filter_calls_last hfresh hk]

end

/-- R304: below 8 the type field keeps the type. -/
theorem seqFor_setWidth (f : Iface) (htype : type.toNat < 8) :
    f.seqFor (type.setWidth 3) = if type = 0#8 then f.bsn else f.dsn := by
  simp only [Iface.seqFor, setWidth_eq_zero htype]

/-- The steps 4 to 6 of the call opened last: the number is taken and the frame is built. -/
theorem advanceTx_last_built (hfresh : ∀ d ∈ s.tx, d.k ≠ k) (hk : c.k = k) (hstage : c.stage = .snapped)
    (hi : s.ifaceOf c.h = some i) (n : Nat) :
    advanceTx k (n + 2) { s with tx := s.tx ++ [c] } = advanceTx k n { s with
      slots := s.slots.set c.h.slot.toNat ⟨c.h.gen, .bound (i.bumped c.type)⟩
      tx := s.tx ++ [{ c with txc := c.assemble s.cfg (i.seqFor c.type), stage := .built }] } := by
  let numbered : TxCtx := { c with stage := .numbered (i.seqFor c.type) }
  rw [advanceTx, txMicro_last_numbered (s := { s with tx := s.tx ++ [c] }) hfresh hk rfl hstage hi, advanceTx]
  rw [txMicro_last_built (c := numbered) (s := { s with
    slots := s.slots.set c.h.slot.toNat ⟨c.h.gen, .bound (i.bumped c.type)⟩, tx := s.tx ++ [numbered] }) hfresh hk rfl rfl]
  rfl

theorem length_checksumBytes (cfg : Config) (bs : List Byte) :
    (checksumBytes cfg bs).length = if cfg.omitsChecksum = true then 0 else 2 := by
  unfold checksumBytes
  split <;> rfl

/-- Settles O42: the call is opened, then its steps one after another. -/
theorem txFrameQueues : Obligations.TxFrameQueues := by
  intro h type ackreq dst src payload s i hlive hi hchannel hdst htype hfresh seq body frame numbered opened hlen
  have he : frameRefusal type false dst = none := frameRefusal_accepted hdst rfl htype
  have hsmall : type.toNat < 8 := by obtain rfl | rfl | rfl := htype <;> decide
  let c := TxCtx.opened s.ticket h type ackreq dst src payload i.snap
  have hopened : opened c := ⟨rfl, rfl, rfl, rfl, rfl, sourceOf_snap src i, rfl, rfl⟩
  have hheader : c.header (i.seqFor c.type) ++ payload = body := by
    simp only [TxCtx.header, c, TxCtx.opened, sourceOf_snap, seqFor_setWidth i hsmall, body, seq]
  have hframe : (c.assemble s.cfg (i.seqFor c.type)).frame = frame := by
    rw [(c.assemble_spec s.cfg _).2.2]
    change c.header (i.seqFor c.type) ++ payload ++ checksumBytes s.cfg (c.header (i.seqFor c.type) ++ payload) = frame
    rw [hheader]
  have hfits : ¬ maxFrame < txLength s.cfg dst (sourceOf src i.snap) payload := by
    simp only [frame, body, List.length_append, length_checksumBytes, length_headerBytes] at hlen
    rw [txLength, sourceOf_snap, headerLen_eq_wireLen, Nat.not_lt]
    exact hlen
  have hexec : exec (.txFrame h type false ackreq dst src payload) s =
      .next (advanceTx s.ticket s.burst { s with tx := s.tx ++ [c] }) := exec_txFrame_opens he hlive hi hchannel hfits
  let built : TxCtx := { c with txc := c.assemble s.cfg (i.seqFor c.type), stage := .built }
  let handsOver : State := { s with slots := numbered, tx := s.tx ++ [built] }
  have hbuilt (n : Nat) : advanceTx s.ticket (n + 3) { s with tx := s.tx ++ [c] } =
      advanceTx s.ticket n (txMicro s.ticket handsOver) := by
    rw [advanceTx_last_built (c := c) hfresh rfl rfl hi (n + 1), show c.type = type.setWidth 3 from rfl,
      bumped_setWidth i hsmall]
    rfl
  refine ⟨fun hburst => ⟨c, hopened, rfl, ?_⟩, fun hburst hroom => ⟨{ built with stage := .waiting }, hopened, rfl, ?_⟩,
    fun hburst hfull => ?_⟩
  · have hnone : advanceTx s.ticket s.burst = id := by
      rw [hburst]
      rfl
    rw [hexec, hnone]
    rfl
  · obtain ⟨n, hn⟩ := Nat.exists_eq_add_of_le' hburst
    have hqueued : txMicro s.ticket handsOver = { s with
        slots := numbered, wq := s.wq ++ [.xmit ⟨frame, i.channel, .txCall s.ticket⟩]
        tx := s.tx ++ [{ built with stage := .waiting }] } := by
      rw [txMicro_last_queued (s := handsOver) (c := built) hfresh rfl rfl rfl hlive hroom, ← hframe]
      rfl
    rw [hexec, congrArg (advanceTx s.ticket) hn, hbuilt n, hqueued]
    exact congrArg _ (advanceTx_waiting _ _ _ _ (txCall_last hfresh rfl rfl) rfl)
  · obtain ⟨n, hn⟩ := Nat.exists_eq_add_of_le' hburst
    have hbusy : txMicro s.ticket handsOver = { s with
        slots := numbered, out := s.out ++ [.response s.ticket [7#8, 0#8]] } :=
      txMicro_last_busy (s := handsOver) (c := built) hfresh rfl rfl rfl hlive hfull
    have hover : State.txCall { s with slots := numbered, out := s.out ++ [.response s.ticket [7#8, 0#8]] } s.ticket = none :=
      List.find?_eq_none.2 fun d hd => by simpa using hfresh d hd
    rw [hexec, congrArg (advanceTx s.ticket) hn, hbuilt n, hbusy]
    exact congrArg _ (advanceTx_none _ _ _ hover)

end Sys2Proof.Machine

/-! ## The WORK agent, step by step and in one burst -/

namespace Sys2Proof.Machine

variable {s t u : State} {j n : Nat} {x : Xmit} {w : WorkItem} {h : Handle} {i : Iface} {v : Filter} {r : XmitResult}

/-! ### One step (R314 to R320) -/

theorem workMicro_take (hwork : s.work = .idle) (hrun : s.running = true) (hw : s.wq[j]? = some w) :
    workMicro j s = { s with wq := s.wq.eraseIdx j, work := .start w } := by
  simp only [workMicro, hwork, hrun, if_true, State.takeWork, hw]
  rfl

theorem workMicro_start_xmit (hwork : s.work = .start (.xmit x)) :
    workMicro j s = { s with work := if s.curChannel = x.channel then .send x else .tune x } := by
  simp only [workMicro, hwork, workStart]
  split <;> rfl

theorem workMicro_tune (hwork : s.work = .tune x) :
    workMicro j s = { s with work := .tuning x, out := s.out ++ [.setChannel x.channel] } := by
  simp only [workMicro, hwork]
  rfl

theorem workMicro_tuning {a : ChannelAnswer} {as : List ChannelAnswer} (hwork : s.work = .tuning x)
    (hanswer : s.setChans = a :: as) : workMicro j s = { s with
      setChans := as, work := if a = .ok then .tuned x else .report x .reconfigurationFailure } := by
  simp only [workMicro, hwork, s.nextSetChannel_cons a as hanswer]
  cases a <;> rfl

theorem workMicro_tuned (hwork : s.work = .tuned x) :
    workMicro j s = { s with curChannel := x.channel, work := .send x } := by
  simp only [workMicro, hwork]
  rfl

theorem workMicro_send (hwork : s.work = .send x) :
    workMicro j s = { s with work := .sending x, out := s.out ++ [.transmit x.frame x.channel] } := by
  simp only [workMicro, hwork]
  rfl

theorem workMicro_sending {a : TransmitAnswer} {as : List TransmitAnswer} (hwork : s.work = .sending x)
    (hanswer : s.transmits = a :: as) :
    workMicro j s = { s with transmits := as, work := .report x (resultOf a) } := by
  simp only [workMicro, hwork, s.nextTransmit_cons a as hanswer]
  cases a <;> rfl

/-- R318: the result goes to the call that queued the item, or to an event. -/
theorem workMicro_report (hwork : s.work = .report x r) : workMicro j s = { s with
    work := .finishing, tx := x.origin.informed s.tx r, out := s.out ++ x.notice r } := by
  simp only [workMicro, hwork, workReport, Xmit.notice, Origin.informed]
  cases x.origin with
  | txCall k => simp only [List.append_nil]; rfl
  | ackSynth =>
    by_cases hr : r = .ok
    · simp only [hr, if_true, List.append_nil]; rfl
    · simp only [hr, if_false]; rfl

theorem workMicro_finishing (hwork : s.work = .finishing) : workMicro j s = { s with work := .idle } := by
  simp only [workMicro, hwork]
  rfl

theorem workMicro_start_filter (hwork : s.work = .start (.filterUpdate h)) (hi : s.ifaceOf h = some i) :
    workMicro j s = { s with work := .filterSend ⟨i.pan, i.short, i.hwAddr⟩ } := by
  simp only [workMicro, hwork, workStart, hi]
  rfl

theorem workMicro_start_stale (hwork : s.work = .start (.filterUpdate h)) (hi : s.ifaceOf h = none) :
    workMicro j s = { s with work := .finishing } := by
  simp only [workMicro, hwork, workStart, hi]
  rfl

theorem workMicro_filterSend (hwork : s.work = .filterSend v) : workMicro j s = { s with
    work := .filterSet v, out := s.out ++ [.filterUpdate v.pan v.short v.long] } := by
  simp only [workMicro, hwork]
  rfl

theorem workMicro_filterSet (hwork : s.work = .filterSet v) :
    workMicro j s = { s with work := .finishing, filter := some v } := by
  simp only [workMicro, hwork]
  rfl

/-! ### Bursts -/

theorem advanceWork_succ (hstep : workMicro 0 s = u) (hrest : advanceWork n u = t) : advanceWork (n + 1) s = t := by
  rw [advanceWork, hstep, hrest]

/-- Reporting and becoming idle again take two steps. -/
theorem advanceWork_report (hwork : s.work = .report x r) : advanceWork 2 s = { s with
    work := .idle, tx := x.origin.informed s.tx r, out := s.out ++ x.notice r } :=
  advanceWork_succ (workMicro_report hwork) (advanceWork_succ (workMicro_finishing rfl) rfl)

/-- On the right channel four steps send the frame and report. -/
theorem advanceWork_send {a : TransmitAnswer} {as : List TransmitAnswer} (hwork : s.work = .send x)
    (hanswer : s.transmits = a :: as) : advanceWork 4 s = { s with
      work := .idle, transmits := as, tx := x.origin.informed s.tx (resultOf a)
      out := s.out ++ [.transmit x.frame x.channel] ++ x.notice (resultOf a) } :=
  advanceWork_succ (workMicro_send hwork) (advanceWork_succ (workMicro_sending rfl hanswer) (advanceWork_report rfl))

/-- R315: on the device's channel the frame is handed over at once. -/
theorem advanceWork_xmit_same {a : TransmitAnswer} {as : List TransmitAnswer} (hwork : s.work = .start (.xmit x))
    (hsame : s.curChannel = x.channel) (hanswer : s.transmits = a :: as) : advanceWork 5 s = { s with
      work := .idle, transmits := as, tx := x.origin.informed s.tx (resultOf a)
      out := s.out ++ [.transmit x.frame x.channel] ++ x.notice (resultOf a) } :=
  advanceWork_succ ((workMicro_start_xmit hwork).trans (by rw [if_pos hsame]))
    (advanceWork_send (s := { s with work := .send x }) rfl hanswer)

/-- R316: on another channel it is handed over after the radio has changed the channel. -/
theorem advanceWork_xmit_other {a : TransmitAnswer} {as : List TransmitAnswer} {cs : List ChannelAnswer}
    (hwork : s.work = .start (.xmit x)) (hother : s.curChannel ≠ x.channel) (hchannel : s.setChans = .ok :: cs)
    (hanswer : s.transmits = a :: as) : advanceWork 8 s = { s with
      curChannel := x.channel, work := .idle, setChans := cs, transmits := as, tx := x.origin.informed s.tx (resultOf a)
      out := s.out ++ [.setChannel x.channel] ++ [.transmit x.frame x.channel] ++ x.notice (resultOf a) } :=
  advanceWork_succ ((workMicro_start_xmit hwork).trans (by rw [if_neg hother]))
    (advanceWork_succ (workMicro_tune (s := { s with work := .tune x }) rfl)
      (advanceWork_succ (workMicro_tuning (s := { s with
          work := .tuning x, out := s.out ++ [.setChannel x.channel] }) rfl hchannel)
        (advanceWork_succ (workMicro_tuned (x := x) rfl) (advanceWork_send rfl hanswer))))

/-- R317: when the radio refuses the channel the frame is not handed over. -/
theorem advanceWork_xmit_refused {cs : List ChannelAnswer} (hwork : s.work = .start (.xmit x))
    (hother : s.curChannel ≠ x.channel) (hchannel : s.setChans = .fail :: cs) : advanceWork 5 s = { s with
      work := .idle, setChans := cs, tx := x.origin.informed s.tx .reconfigurationFailure
      out := s.out ++ [.setChannel x.channel] ++ x.notice .reconfigurationFailure } :=
  advanceWork_succ ((workMicro_start_xmit hwork).trans (by rw [if_neg hother]))
    (advanceWork_succ (workMicro_tune (s := { s with work := .tune x }) rfl)
      (advanceWork_succ (workMicro_tuning (s := { s with
          work := .tuning x, out := s.out ++ [.setChannel x.channel] }) rfl hchannel) (advanceWork_report rfl)))

/-- R320: the addresses are pushed to the radio, then `DEV.filter` is written. -/
theorem advanceWork_filter (hwork : s.work = .start (.filterUpdate h)) (hi : s.ifaceOf h = some i) :
    advanceWork 4 s = { s with
      work := .idle, filter := some ⟨i.pan, i.short, i.hwAddr⟩, out := s.out ++ [.filterUpdate i.pan i.short i.hwAddr] } :=
  advanceWork_succ (workMicro_start_filter hwork hi) (advanceWork_succ (workMicro_filterSend rfl)
    (advanceWork_succ (workMicro_filterSet rfl) (advanceWork_succ (workMicro_finishing rfl) rfl)))

/-- R223: for a stale handle nothing is pushed. -/
theorem advanceWork_stale (hwork : s.work = .start (.filterUpdate h)) (hi : s.ifaceOf h = none) :
    advanceWork 2 s = { s with work := .idle } :=
  advanceWork_succ (workMicro_start_stale hwork hi) (advanceWork_succ (workMicro_finishing rfl) rfl)

/-- The burst after an item was taken. -/
theorem perform_work_take (hwork : s.work = .idle) (hrun : s.running = true) (hw : s.wq[j]? = some w)
    (hburst : s.burst = n) : perform (.work j) s =
      .next (advanceWork n { s with wq := s.wq.eraseIdx j, work := .start w }) := by
  rw [← hburst, ← workMicro_take hwork hrun hw]
  rfl

/-- Settles O46: each step by its equation, the bursts as their chains. -/
theorem xmitExecution : Obligations.XmitExecution := by
  refine ⟨fun s j x hrun hidle hitem => ?_, fun s j x =>
    ⟨fun w hidle hrun hw => workMicro_take hidle hrun hw, workMicro_start_xmit, workMicro_tune,
      fun a as hwork hanswer => workMicro_tuning hwork hanswer, workMicro_tuned, workMicro_send,
      fun r rs hwork hanswer => workMicro_sending hwork hanswer, fun r => workMicro_report, workMicro_finishing⟩⟩
  let taken : State := { s with wq := s.wq.eraseIdx j, work := .start (.xmit x) }
  have htaken {n : Nat} (hburst : s.burst = n) : perform (.work j) s = .next (advanceWork n taken) :=
    perform_work_take hidle hrun hitem hburst
  refine ⟨fun r rs hsame hanswer hburst => ?_, fun r rs cs hother hchannel hanswer hburst => ?_,
    fun cs hother hchannel hburst => ?_⟩
  · rw [htaken hburst, advanceWork_xmit_same (s := taken) rfl hsame hanswer, hidle]
  · rw [htaken hburst, advanceWork_xmit_other (s := taken) rfl hother hchannel hanswer, hidle, List.append_assoc s.out]
    rfl
  · rw [htaken hburst, advanceWork_xmit_refused (s := taken) rfl hother hchannel, hidle]

/-- Settles O47: the same for the item that pushes a filter. -/
theorem filterUpdateExecution : Obligations.FilterUpdateExecution := by
  refine ⟨fun s j h hrun hidle hitem => ?_, fun s j =>
    ⟨fun h hwork => ⟨fun i hi => workMicro_start_filter hwork hi, workMicro_start_stale hwork⟩,
      fun v => ⟨workMicro_filterSend, workMicro_filterSet⟩⟩⟩
  let taken : State := { s with wq := s.wq.eraseIdx j, work := .start (.filterUpdate h) }
  have htaken {n : Nat} (hburst : s.burst = n) : perform (.work j) s = .next (advanceWork n taken) :=
    perform_work_take hidle hrun hitem hburst
  refine ⟨fun i hi hburst => ?_, fun hi hburst => ?_⟩
  · rw [htaken hburst, advanceWork_filter (s := taken) rfl hi, hidle]
  · rw [htaken hburst, advanceWork_stale (s := taken) rfl hi, hidle]

end Sys2Proof.Machine

/-! ## The RX agent, step by step: the checksum, the decode, the fan-out, the end of a frame -/

namespace Sys2Proof.Machine

variable {s t u : State} {c : RxCtx} {h : HandleCtx} {rest : List HandleCtx} {md : Md} {n : Nat} {todo taken : List Nat}
  {bytes : List Byte} {source : FrameSource} {code : Byte} {e : HdrError} {i : Iface}

/-! ### One step (R252 to R263, R280) -/

/-- The frame is over with a terminal state, which an injected frame answers (R113). -/
def State.over (s : State) (source : FrameSource) (code : Byte) : State :=
  match source with
  | .radio => { s with rx := none }
  | .command k => { s with rx := none, out := s.out ++ [.response k [0#8, code]] }

theorem rxEnd_eq_over (c : RxCtx) (code : Byte) (s : State) : rxEnd c code s = s.over c.source code := by
  obtain ⟨source, -, -, -, -, -⟩ := c
  cases source <;> rfl

@[simp] theorem State.over_rx (s : State) (source : FrameSource) (code : Byte) : (s.over source code).rx = none := by
  unfold State.over
  split <;> rfl

/-- R263: after the decode, the count or the event. -/
theorem noteMalformed_eq (s : State) (e : HdrError) : s.noteMalformed e = { s with
    cntMalformed := if e = .unsupportedFeature then s.cntMalformed else (s.cntMalformed + 1) % 2 ^ s.cfg.cntWidth
    out := s.out ++ (if e = .unsupportedFeature then [.event .securityFrameDropped 0] else []) } := by
  by_cases he : e = .unsupportedFeature
  · subst he
    rfl
  · simp only [State.noteMalformed, if_neg he, List.append_nil]
    rfl

/-- R261: a slot matches when it is bound, and to a monitor only if monitors match. -/
theorem matchesSlot_eq_true : s.matchesSlot n = true ↔
    ∃ g i, s.slots[n]? = some ⟨g, .bound i⟩ ∧ (s.cfg.matchMonitor = true ∨ i.type = .ordinary) := by
  unfold State.matchesSlot
  cases hsl : s.slots[n]? with
  | none => simp
  | some sl =>
    obtain ⟨g, o⟩ := sl
    cases o with
    | free => simp
    | unlinked i => simp
    | bound i => simp

section
variable (hrx : s.rx = some c)
include hrx

theorem rxMicro_checksum (hst : c.st = .checksumCheck) : rxMicro s = .next (rxChecksum c s) := by
  simp only [rxMicro, hrx, hst]

theorem rxMicro_checksum_omitted (hst : c.st = .checksumCheck) (homits : s.cfg.omitsChecksum = true) :
    rxMicro s = .next { s with rx := some { c with st := .decode } } := by
  rw [rxMicro_checksum hrx hst, rxChecksum, if_pos homits]
  rfl

theorem rxMicro_checksum_valid (hst : c.st = .checksumCheck) (homits : s.cfg.omitsChecksum = false)
    (hvalid : 2 ≤ (c.buf.take c.len).length ∧ crc16 (c.buf.take c.len) = 0#16) :
    rxMicro s = .next { s with rx := some { c with len := c.len - 2, st := .decode } } := by
  rw [rxMicro_checksum hrx hst, rxChecksum, if_neg (ne_true_of_eq_false homits), if_pos (crcValid_eq_true.2 hvalid)]
  rfl

theorem rxMicro_checksum_bad (hst : c.st = .checksumCheck) (homits : s.cfg.omitsChecksum = false)
    (hbad : ¬ (2 ≤ (c.buf.take c.len).length ∧ crc16 (c.buf.take c.len) = 0#16)) : rxMicro s = .next { s with
      cntBadcsum := (s.cntBadcsum + 1) % 2 ^ s.cfg.cntWidth, rx := some { c with st := .dropped .badChecksum } } := by
  rw [rxMicro_checksum hrx hst, rxChecksum, if_neg (ne_true_of_eq_false homits), if_neg (mt crcValid_eq_true.1 hbad)]
  rfl

theorem rxMicro_decode_ok (hst : c.st = .decode) (hok : decodeHdr fcLayout c.buf c.len = .ok md) :
    rxMicro s = .next { s with
      rx := some { c with cur := md.hdrLen, st := .fanout md (List.range s.slots.length) [] } } := by
  simp only [rxMicro, hrx, hst, rxDecode, hok]
  rfl

theorem rxMicro_decode_error {cur : Nat} (hst : c.st = .decode)
    (herr : decodeHdr fcLayout c.buf c.len = .error (e, cur)) : rxMicro s = .next { s with
      cntMalformed := if e = .unsupportedFeature then s.cntMalformed else (s.cntMalformed + 1) % 2 ^ s.cfg.cntWidth
      rx := some { c with cur := cur, st := .dropped (.malformed e) }
      out := s.out ++ (if e = .unsupportedFeature then [.event .securityFrameDropped 0] else []) } := by
  simp only [rxMicro, hrx, hst, rxDecode, herr, noteMalformed_eq]
  rfl

theorem rxMicro_visit (hst : c.st = .fanout md (n :: todo) taken) : rxMicro s = .next { s with
    rx := some { c with st := .fanout md todo (if s.matchesSlot n then taken ++ [n] else taken) } } := by
  simp only [rxMicro, hrx, hst, rxFanout]
  rfl

theorem rxMicro_unmatched (hst : c.st = .fanout md [] []) :
    rxMicro s = .next { s with rx := some { c with st := .dropped .noInterface } } := by
  simp only [rxMicro, hrx, hst, rxFanout]
  rfl

theorem rxMicro_finish {o : CopyOutcome} (hst : c.st = .handling (h :: rest)) (hstage : h.stage = .finish o) :
    rxMicro s = .next { s with
      rx := some { c with st := .handling rest, outcomes := c.outcomes ++ [(h.slot, o)] } } := by
  simp only [rxMicro, hrx, hst, rxHandle, hstage]
  rfl

theorem rxMicro_handled (hst : c.st = .handling []) :
    rxMicro s = .next { s with rx := some { c with st := .done } } := by
  simp only [rxMicro, hrx, hst]
  rfl

theorem rxMicro_dropped {r : DropReason} (hst : c.st = .dropped r) : rxMicro s = .next (s.over c.source r.code) := by
  simp only [rxMicro, hrx, hst, rxEnd_eq_over]

theorem rxMicro_done (hst : c.st = .done) : rxMicro s = .next (s.over c.source 0#8) := by
  simp only [rxMicro, hrx, hst, rxEnd_eq_over]

end

/-! ### Bursts -/

theorem advanceRx_step (hrx : s.rx = some c) (hstep : rxMicro s = .next u) : advanceRx (n + 1) s = advanceRx n u := by
  rw [advanceRx_succ n s c hrx, hstep, andThen_next]

theorem advanceRx_over (n : Nat) (s : State) (source : FrameSource) (code : Byte) :
    advanceRx n (s.over source code) = .next (s.over source code) :=
  advanceRx_none n _ (s.over_rx source code)

theorem advanceRx_dropped {r : DropReason} (hrx : s.rx = some c) (hst : c.st = .dropped r) :
    advanceRx (n + 1) s = .next (s.over c.source r.code) := by
  rw [advanceRx_step hrx (rxMicro_dropped hrx hst), advanceRx_over]

/-- R252 to R254: a frame that passes stage 1 is decoded next, over its stripped length. -/
theorem advanceRx_passes (hpass : s.passesChecksum bytes) (source : FrameSource) (n : Nat) :
    advanceRx (n + 1) (s.startRx source bytes) =
      advanceRx n { s with rx := some ⟨source, bytes, s.strippedLen bytes, 0, .decode, []⟩ } := by
  cases homits : s.cfg.omitsChecksum with
  | true =>
    rw [advanceRx_step rfl (rxMicro_checksum_omitted (s := s.startRx source bytes) rfl rfl homits), State.strippedLen,
      if_pos homits]
    rfl
  | false =>
    have hvalid : 2 ≤ bytes.length ∧ crc16 bytes = 0#16 := hpass.resolve_left (ne_true_of_eq_false homits)
    have hstep := rxMicro_checksum_valid (s := s.startRx source bytes)
      (c := ⟨source, bytes, bytes.length, 0, .checksumCheck, []⟩) rfl rfl homits (by rwa [List.take_length])
    rw [advanceRx_step rfl hstep, State.strippedLen, if_neg (ne_true_of_eq_false homits)]
    rfl

/-- R262: with no other agent in between, the fan-out takes the matching slots in the order of its visits. -/
theorem advanceRx_visits (hrx : s.rx = some { c with st := .fanout md todo taken }) (n : Nat) :
    advanceRx (n + todo.length) s =
      advanceRx n { s with rx := some { c with st := .fanout md [] (taken ++ todo.filter s.matchesSlot) } } := by
  induction todo generalizing s taken with
  | nil => simp [← hrx]
  | cons m todo ih =>
    have htaken : taken ++ (m :: todo).filter s.matchesSlot =
        (if s.matchesSlot m then taken ++ [m] else taken) ++ todo.filter s.matchesSlot := by
      rw [List.filter_cons]
      split <;> simp
    rw [List.length_cons, ← Nat.add_assoc, advanceRx_step hrx (rxMicro_visit hrx rfl), ih rfl, htaken]
    rfl

/-- R255, R262: an accepted header's frame comes to the end of its fan-out with the matching slots taken. -/
theorem advanceRx_fanout (hpass : s.passesChecksum bytes)
    (hok : decodeHdr fcLayout bytes (s.strippedLen bytes) = .ok md) (source : FrameSource) (n : Nat) : advanceRx (n + (s.slots.length + 2)) (s.startRx source bytes) =
      advanceRx n { s with
        rx := some ⟨source, bytes, s.strippedLen bytes, md.hdrLen, .fanout md [] s.matching, []⟩ } := by
  let decodes : RxCtx := ⟨source, bytes, s.strippedLen bytes, 0, .decode, []⟩
  have hvisits := advanceRx_visits (s := { s with
      rx := some { decodes with cur := md.hdrLen, st := .fanout md (List.range s.slots.length) [] } })
    (c := { decodes with cur := md.hdrLen }) rfl n
  rw [List.length_range] at hvisits
  rw [← Nat.add_assoc]
  exact (advanceRx_passes hpass source (n + s.slots.length + 1)).trans
    ((advanceRx_step (s := { s with rx := some decodes }) rfl (rxMicro_decode_ok (c := decodes) rfl rfl hok)).trans
      hvisits)

/-! ### The two ways a frame comes in -/

/-- What a burst makes of a frame, it makes of an injected one and of one from the radio. -/
theorem received_of_advanceRx {f : State → State} (hrun : s.running = true)
    (h : ∀ (s' : State) (source : FrameSource), (∃ queue, s' = { s with phyIn := queue }) →
      advanceRx s.burst (s'.startRx source bytes) = .next ((f s').over source code)) :
    exec (.rxFrame bytes) s = .next ((f s).over (.command s.ticket) code) ∧
      ∀ queue, bytes.length ≤ 127 → s.phyIn = bytes :: queue →
        perform .phy s = .next ((f { s with phyIn := queue }).over .radio code) := by
  refine ⟨(exec_rxFrame_starts hrun).trans (h s _ ⟨s.phyIn, rfl⟩), fun queue hlen hphy => ?_⟩
  have hreceive : receiveFrame bytes { s with phyIn := queue } =
      advanceRx s.burst (({ s with phyIn := queue } : State).startRx .radio bytes) := if_pos hrun
  exact (takeFrame_received hphy hlen).trans (hreceive.trans (h { s with phyIn := queue } .radio ⟨queue, rfl⟩))

theorem advanceRx_badChecksum (homits : s.cfg.omitsChecksum = false) (hbad : bytes.length < 2 ∨ crc16 bytes ≠ 0#16)
    (source : FrameSource) (hn : 2 ≤ n) : advanceRx n (s.startRx source bytes) =
      .next (({ s with cntBadcsum := (s.cntBadcsum + 1) % 2 ^ s.cfg.cntWidth } : State).over source 1#8) := by
  obtain ⟨n, rfl⟩ := Nat.exists_eq_add_of_le' hn
  have hinvalid : ¬ (2 ≤ (bytes.take bytes.length).length ∧ crc16 (bytes.take bytes.length) = 0#16) := by
    rw [List.take_length]
    exact fun ⟨hlen, hzero⟩ => hbad.elim (Nat.not_lt.2 hlen) (absurd hzero)
  have hstep := rxMicro_checksum_bad (s := s.startRx source bytes)
    (c := ⟨source, bytes, bytes.length, 0, .checksumCheck, []⟩) rfl rfl homits hinvalid
  rw [advanceRx_step rfl hstep, advanceRx_dropped rfl rfl]
  cases source <;> rfl

/-- Settles O33: the checksum step fails, and the next step ends the frame. -/
theorem badChecksumDropped : Obligations.BadChecksumDropped := by
  intro bytes s hrun homits hbad hburst
  refine received_of_advanceRx (code := 1#8)
    (f := fun s => { s with cntBadcsum := (s.cntBadcsum + 1) % 2 ^ s.cfg.cntWidth }) hrun ?_
  rintro s' source ⟨queue, rfl⟩
  exact advanceRx_badChecksum (s := { s with phyIn := queue }) homits hbad source hburst

theorem advanceRx_malformed {cur : Nat} (hpass : s.passesChecksum bytes)
    (herr : decodeHdr fcLayout bytes (s.strippedLen bytes) = .error (e, cur)) (source : FrameSource) (hn : 3 ≤ n) :
    advanceRx n (s.startRx source bytes) = .next (({ s with
      cntMalformed := if e = .unsupportedFeature then s.cntMalformed else (s.cntMalformed + 1) % 2 ^ s.cfg.cntWidth
      out := s.out ++ (if e = .unsupportedFeature then [.event .securityFrameDropped 0] else []) } : State).over
        source 2#8) := by
  obtain ⟨n, rfl⟩ := Nat.exists_eq_add_of_le' hn
  let decodes : RxCtx := ⟨source, bytes, s.strippedLen bytes, 0, .decode, []⟩
  refine (advanceRx_passes hpass source (n + 2)).trans
    ((advanceRx_step (s := { s with rx := some decodes }) rfl (rxMicro_decode_error (c := decodes) rfl rfl herr)).trans
      ((advanceRx_dropped rfl rfl).trans ?_))
  cases source <;> rfl

/-- Settles O34: checksum, decode with its error's count or event, end. -/
theorem malformedDropped : Obligations.MalformedDropped := by
  intro bytes s e cur hrun hpass herr hburst
  refine received_of_advanceRx (code := 2#8) (f := fun s => { s with
    cntMalformed := if e = .unsupportedFeature then s.cntMalformed else (s.cntMalformed + 1) % 2 ^ s.cfg.cntWidth
    out := s.out ++ (if e = .unsupportedFeature then [.event .securityFrameDropped 0] else []) }) hrun ?_
  rintro s' source ⟨queue, rfl⟩
  exact advanceRx_malformed (s := { s with phyIn := queue }) hpass herr source hburst

theorem matching_eq_nil (hnone : ∀ (n : Nat) (g : Byte) (i : Iface), s.slots[n]? = some ⟨g, .bound i⟩ →
    s.cfg.matchMonitor = false ∧ i.type = .monitor) : s.matching = [] := by
  refine List.filter_eq_nil_iff.2 fun n _ hn => ?_
  obtain ⟨g, i, hbound, hmatch⟩ := matchesSlot_eq_true.1 hn
  obtain ⟨hno, hmonitor⟩ := hnone n g i hbound
  simp [hno, hmonitor] at hmatch

theorem advanceRx_noInterface (hpass : s.passesChecksum bytes)
    (hok : decodeHdr fcLayout bytes (s.strippedLen bytes) = .ok md) (hnone : s.matching = []) (source : FrameSource)
    (hn : s.slots.length + 4 ≤ n) : advanceRx n (s.startRx source bytes) = .next (s.over source 4#8) := by
  obtain ⟨n, rfl⟩ := Nat.exists_eq_add_of_le' hn
  have hfanout := advanceRx_fanout hpass hok source (n + 2)
  rw [hnone] at hfanout
  rw [show n + (s.slots.length + 4) = n + 2 + (s.slots.length + 2) by omega]
  refine hfanout.trans ((advanceRx_step rfl (rxMicro_unmatched rfl rfl)).trans ((advanceRx_dropped rfl rfl).trans ?_))
  cases source <;> rfl

/-- Settles O35: the fan-out visits every slot and takes none. -/
theorem noInterfaceDropped : Obligations.NoInterfaceDropped := by
  intro bytes s md hrun hpass hok hnone hburst
  refine received_of_advanceRx (code := 4#8) (f := id) hrun ?_
  rintro s' source ⟨queue, rfl⟩
  exact advanceRx_noInterface (s := { s with phyIn := queue }) hpass hok (matching_eq_nil hnone) source hburst

end Sys2Proof.Machine

/-! ## The dispatch of a copy by its frame-type pattern -/

namespace Sys2Proof.Machine

variable {s : State} {n : Nat} {c : RxCtx} {h : HandleCtx} {rest : List HandleCtx} {o : CopyOutcome}
  {ports : List PortOut} {stage : Stage} {d : HandleCtx → State → Stage × State}

/-! ### A dispatch and its burst -/

/-- Log 19: with no copy at its dispatch a pattern does nothing. -/
theorem dispatchBy_none (d : HandleCtx → State → Stage × State) (hnone : s.atDispatch = none) :
    s.dispatchBy d = .next s := by
  simp only [State.dispatchBy, hnone]

theorem advanceRx_finish {r : CopyOutcome} (hrx : s.rx = some c) (hst : c.st = .handling (h :: rest))
    (hstage : h.stage = .finish r) : advanceRx (n + 1) s = advanceRx n { s with
      rx := some { c with st := .handling rest, outcomes := c.outcomes ++ [(h.slot, r)] } } :=
  advanceRx_step hrx (rxMicro_finish hrx hst hstage)

section
variable (hrx : s.rx = some c) (hst : c.st = .handling (h :: rest))
include hrx hst

theorem rxMicro_parsing_address (hstage : h.stage = .parsing) {p : Parsed} {ps : List (Option Parsed)}
    (hparses : s.parses = some p :: ps) : rxMicro s = .next { s with
      rx := some { c with st := .handling ({ h with stage := .finish (.delivered none) } :: rest) }
      parses := ps, out := s.out ++ [.record p.addr] } := by
  rw [rxMicro_handling hrx hst]
  simp only [rxHandle, hstage, s.nextParse_cons _ _ hparses]
  rfl

theorem rxMicro_parsing_error (hstage : h.stage = .parsing) {ps : List (Option Parsed)}
    (hparses : s.parses = none :: ps) : rxMicro s = .next { s with
      rx := some { c with st := .handling ({ h with stage := .finish (.delivered none) } :: rest) }
      parses := ps } := by
  rw [rxMicro_handling hrx hst]
  simp only [rxHandle, hstage, s.nextParse_cons _ _ hparses]
  rfl

theorem rxMicro_commanding (hstage : h.stage = .commanding) {r : DeliveryResult} {rs : List DeliveryResult}
    (hhandled : s.handled = r :: rs) : rxMicro s = .next { s with
      rx := some { c with st := .handling ({ h with stage := .finish (.delivered (some r)) } :: rest) }
      handled := rs } := by
  rw [rxMicro_handling hrx hst]
  simp only [rxHandle, hstage, s.nextHandled_cons _ _ hhandled]
  rfl

variable (hstage : h.stage = .dispatch)
include hstage

/-- R275: the copy at its dispatch goes on to the stage its pattern gives, with the transaction the pattern issues. -/
theorem dispatchBy_of_emits (hd : d h s = (stage, { s with out := s.out ++ ports })) (hburst : s.burst = n) :
    s.dispatchBy d = advanceRx n { s with
      rx := some { c with st := .handling ({ h with stage := stage } :: rest) }, out := s.out ++ ports } := by
  simp only [State.dispatchBy, atDispatch_eq_some.2 ⟨hrx, hst, hstage⟩, hd, hburst]
  rfl

/-- R279, R280: a pattern that ends its copy, and the release of the slot where the burst allows one more step. -/
theorem dispatchBy_ends (hd : d h s = (.finish o, { s with out := s.out ++ ports })) (hburst : s.burst ≤ 1) :
    s.dispatchBy d = .next { s with
      rx := some (if s.burst = 0 then { c with st := .handling ({ h with stage := .finish o } :: rest) }
        else { c with st := .handling rest, outcomes := c.outcomes ++ [(h.slot, o)] })
      out := s.out ++ ports } := by
  obtain hzero | hone : s.burst = 0 ∨ s.burst = 1 := by omega
  · rw [if_pos hzero, dispatchBy_of_emits hrx hst hstage hd hzero]
    rfl
  · rw [if_neg (by omega), dispatchBy_of_emits hrx hst hstage hd hone]
    exact advanceRx_finish (s := { s with
        rx := some { c with st := .handling ({ h with stage := .finish o } :: rest) }, out := s.out ++ ports })
      (c := { c with st := .handling ({ h with stage := .finish o } :: rest) }) (h := { h with stage := .finish o })
      (n := 0) rfl rfl rfl

end

/-! ### A collaborator's answer and the release of the slot (R276, R278, R280) -/

theorem advanceRx_answered {t : State} (hrx : s.rx = some c) (hstep : rxMicro s = .next { t with
      rx := some { c with st := .handling ({ h with stage := .finish o } :: rest) } }) :
    advanceRx 2 s = .next { t with
      rx := some { c with st := .handling rest, outcomes := c.outcomes ++ [(h.slot, o)] } } := by
  rw [advanceRx_step hrx hstep]
  exact advanceRx_finish (s := { t with
      rx := some { c with st := .handling ({ h with stage := .finish o } :: rest) } })
    (c := { c with st := .handling ({ h with stage := .finish o } :: rest) }) (h := { h with stage := .finish o })
    (n := 0) rfl rfl rfl

/-- Settles O40: with a copy at its dispatch each of the three patterns ends it in its own step. -/
theorem dispatchInOneStep : Obligations.DispatchInOneStep := by
  intro f tt s
  refine ⟨fun hnone => ⟨dispatchBy_none _ hnone, dispatchBy_none _ hnone, dispatchBy_none _ hnone,
    dispatchBy_none _ hnone, dispatchBy_none _ hnone⟩, fun c h rest hrx hst hstage => ?_⟩
  intro ended hburst
  have hunchanged : dispatchAck h s = (.finish .consumed, { s with out := s.out ++ [] }) := by
    rw [List.append_nil]
    rfl
  have htype : (1#1 ++ tt).toNat = 4 + tt.toNat := by
    revert tt
    decide
  refine ⟨dispatchBy_ends hrx hst hstage rfl hburst, dispatchBy_ends hrx hst hstage hunchanged hburst, ?_⟩
  rw [← htype]
  exact dispatchBy_ends (d := dispatchUnrecognized (1#1 ++ tt).toNat) hrx hst hstage rfl hburst

/-- Settles O41: the call, the answer and the release are one step each. -/
theorem dispatchWithAnswer : Obligations.DispatchWithAnswer := by
  intro f s c h rest hrx hst goesOn
  refine ⟨fun hstage => ?_, fun hstage => ⟨fun p ps => rxMicro_parsing_address hrx hst hstage,
    fun ps => rxMicro_parsing_error hrx hst hstage⟩, fun hstage r rs => rxMicro_commanding hrx hst hstage⟩
  let calls (stage : Stage) : RxCtx := { c with st := .handling ({ h with stage := stage } :: rest) }
  have hbeacon {n : Nat} (hn : s.burst = n) : exec (.frameBeacon f) s =
      advanceRx n { s with rx := some (calls .parsing), out := s.out ++ [.parse h.copy] } :=
    dispatchBy_of_emits (d := dispatchBeacon) hrx hst hstage rfl hn
  have hmaccmd {n : Nat} (hn : s.burst = n) : exec (.frameMaccmd f) s =
      advanceRx n { s with rx := some (calls .commanding), out := s.out ++ [.handle h.slot h.copy] } :=
    dispatchBy_of_emits (d := dispatchMaccmd) hrx hst hstage rfl hn
  refine ⟨fun hzero => ⟨hbeacon hzero, hmaccmd hzero⟩, fun htwo => ⟨fun p ps hparses => ?_, fun ps hparses => ?_,
    fun r rs hhandled => ?_⟩⟩
  · have hstep := rxMicro_parsing_address
      (s := { s with rx := some (calls .parsing), out := s.out ++ [.parse h.copy] }) (c := calls .parsing)
      (h := { h with stage := .parsing }) rfl rfl rfl hparses
    rw [List.append_assoc] at hstep
    exact (hbeacon htwo).trans (advanceRx_answered (t := { s with
      parses := ps, out := s.out ++ [.parse h.copy, .record p.addr] }) (c := calls .parsing)
      (h := { h with stage := .parsing }) rfl hstep)
  · have hstep := rxMicro_parsing_error
      (s := { s with rx := some (calls .parsing), out := s.out ++ [.parse h.copy] }) (c := calls .parsing)
      (h := { h with stage := .parsing }) rfl rfl rfl hparses
    exact (hbeacon htwo).trans (advanceRx_answered (t := { s with parses := ps, out := s.out ++ [.parse h.copy] })
      (c := calls .parsing) (h := { h with stage := .parsing }) rfl hstep)
  · have hstep := rxMicro_commanding
      (s := { s with rx := some (calls .commanding), out := s.out ++ [.handle h.slot h.copy] }) (c := calls .commanding)
      (h := { h with stage := .commanding }) rfl rfl rfl hhandled
    exact (hmaccmd htwo).trans (advanceRx_answered (t := { s with
      handled := rs, out := s.out ++ [.handle h.slot h.copy] }) (c := calls .commanding)
      (h := { h with stage := .commanding }) rfl hstep)

/-! ### The pattern of a copy and its type (R115, R275) -/

/-- The frame type a pattern stands for. -/
def patternType : Instr → Option (BitVec 3)
  | .frameBeacon _ => some 0#3
  | .frameData _ => some 1#3
  | .frameAck _ => some 2#3
  | .frameMaccmd _ => some 3#3
  | .frameUnrecognized tt _ => some (1#1 ++ tt)
  | _ => none

theorem patternType_frameInstr (type : BitVec 3) (f : FrameCtl) : patternType (frameInstr type f) = some type := by
  unfold frameInstr
  split_ifs with h0 h1 h2 h3
  · rw [h0]; rfl
  · rw [h1]; rfl
  · rw [h2]; rfl
  · rw [h3]; rfl
  · exact congrArg some (one_append_low_bits h0 h1 h2 h3)

/-- A pattern of a type is the one pattern with that type's operands. -/
theorem eq_iff_exists_pattern {type type' : BitVec 3} {f : FrameCtl} {pattern : FrameCtl → Instr}
    (hpattern : ∀ f, pattern f = frameInstr type' f) : type = type' ↔ ∃ f', frameInstr type f = pattern f' := by
  constructor
  · rintro rfl
    exact ⟨f, (hpattern f).symm⟩
  · rintro ⟨f', hf'⟩
    have htypes := congrArg patternType (hf'.trans (hpattern f'))
    simpa [patternType_frameInstr] using htypes

/-- Settles O51: the metadata's type is its frame control word's, so the pattern's dispatch is the state machine's. -/
theorem dispatchIsStateMachine : Obligations.DispatchIsStateMachine := by
  rintro s c h rest hrx hst hstage ⟨haccepted, htype, -⟩
  refine ⟨_, decodeFc_eq_ok.2 ⟨haccepted, rfl⟩, ?_, ?_⟩
  · rw [← htype, exec_frameInstr, dispatchBy_of_atDispatch _ (atDispatch_eq_some.2 ⟨hrx, hst, hstage⟩),
      rxMicro_handling hrx hst]
    simp only [rxHandle, hstage, andThen_next]
    rfl
  · rw [← htype]
    exact ⟨eq_iff_exists_pattern fun _ => rfl, eq_iff_exists_pattern fun _ => rfl, eq_iff_exists_pattern fun _ => rfl,
      eq_iff_exists_pattern fun _ => rfl, fun tt => eq_iff_exists_pattern fun f => (frameInstr_unrecognized tt f).symm⟩

end Sys2Proof.Machine

/-! ## A Data frame through the fan-out -/

namespace Sys2Proof.Machine

variable {s u : State} {n : Nat} {c : RxCtx} {h : HandleCtx} {rest : List HandleCtx} {bytes : List Byte}
  {cs : List Bool} {original : Copy} {md : Md}

/-- The enqueue of a copy by the handle of a slot: the copy's scope is the one the slot's fields give (R271, R279). -/
def State.enqueueOf (s : State) (copy : Copy) (n : Nat) : PortOut :=
  .enqueue n { copy with md := { copy.md with
    scope := ((s.slots[n]?).bind Slot.fields).map (scopeOf copy.md.dst copy.md.src.mode) } }

/-! ### One handle -/

section
variable (hrx : s.rx = some c) (hst : c.st = .handling (h :: rest))
include hrx hst

theorem advanceRx_handle (hstep : rxHandle c h rest s = .next u) : advanceRx (n + 1) s = advanceRx n u :=
  advanceRx_step hrx ((rxMicro_handling hrx hst).trans hstep)

theorem advanceRx_classify (hstage : h.stage = .classify) {i : Iface}
    (hi : (s.slots[h.slot]?).bind Slot.fields = some i) : advanceRx (n + 1) s = advanceRx n { s with
      rx := some { c with st := .handling (⟨h.slot, h.original, { h.copy with md := { h.copy.md with
        scope := some (scopeOf h.copy.md.dst h.copy.md.src.mode i) } }, .ackCheck⟩ :: rest) } } :=
  advanceRx_handle hrx hst ((rxHandle_classify hstage).trans (rxClassify_of_fields hi))

theorem advanceRx_ackCheck (hstage : h.stage = .ackCheck) (hno : s.cfg.hwAck = true ∨ h.copy.md.ackreq = false) :
    advanceRx (n + 1) s = advanceRx n { s with
      rx := some { c with st := .handling ({ h with stage := .dispatch } :: rest) } } := by
  have hnotDue : ¬ ackDue s.cfg h.copy.md = true := by
    rw [ackDue_eq_true]
    rcases hno with hhw | hreq <;> simp [*]
  refine advanceRx_handle hrx hst ((rxHandle_ackCheck hstage).trans ?_)
  rw [rxAckCheck, if_neg hnotDue]
  rfl

theorem advanceRx_dispatchData (hstage : h.stage = .dispatch) (hdata : h.copy.md.type = 1#3) :
    advanceRx (n + 1) s = advanceRx n { s with
      rx := some { c with st := .handling ({ h with stage := .finish (.delivered none) } :: rest) }
      out := s.out ++ [.enqueue h.slot h.copy] } := by
  refine advanceRx_handle hrx hst ?_
  simp only [rxHandle, hstage, hdata]
  rfl

/-- R271 to R280: a handle of a Data copy with no acknowledgement to report enqueues it and ends, in four steps. -/
theorem advanceRx_delivers (hstage : h.stage = .classify) (hbound : ∃ i, (s.slots[h.slot]?).bind Slot.fields = some i)
    (hdata : h.copy.md.type = 1#3) (hno : s.cfg.hwAck = true ∨ h.copy.md.ackreq = false) :
    advanceRx (n + 4) s = advanceRx n { s with
      rx := some { c with st := .handling rest, outcomes := c.outcomes ++ [(h.slot, .delivered none)] }
      out := s.out ++ [s.enqueueOf h.copy h.slot] } := by
  obtain ⟨i, hi⟩ := hbound
  let classified : Copy := { h.copy with md := { h.copy.md with
    scope := some (scopeOf h.copy.md.dst h.copy.md.src.mode i) } }
  let run (stage : Stage) : RxCtx := { c with st := .handling (⟨h.slot, h.original, classified, stage⟩ :: rest) }
  have henqueue : s.enqueueOf h.copy h.slot = .enqueue h.slot classified := by
    rw [State.enqueueOf, hi]
    rfl
  rw [henqueue]
  calc advanceRx (n + 4) s
    _ = advanceRx (n + 3) { s with rx := some (run .ackCheck) } := advanceRx_classify hrx hst hstage hi
    _ = advanceRx (n + 2) { s with rx := some (run .dispatch) } :=
      advanceRx_ackCheck (s := { s with rx := some (run .ackCheck) }) (c := run .ackCheck) rfl rfl rfl hno
    _ = advanceRx (n + 1) { s with
          rx := some (run (.finish (.delivered none))), out := s.out ++ [.enqueue h.slot classified] } :=
      advanceRx_dispatchData (s := { s with rx := some (run .dispatch) }) (c := run .dispatch) rfl rfl rfl hdata
    _ = _ := advanceRx_finish
      (s := { s with rx := some (run (.finish (.delivered none))), out := s.out ++ [.enqueue h.slot classified] })
      (c := run (.finish (.delivered none))) rfl rfl rfl

/-- R264 to R280: a handle that still makes its clone, and can, takes one step more. -/
theorem advanceRx_delivers_clone (hstage : h.stage = .clone) (hclones : s.clones = true :: cs)
    (hbound : ∃ i, (s.slots[h.slot]?).bind Slot.fields = some i) (hdata : h.copy.md.type = 1#3)
    (hno : s.cfg.hwAck = true ∨ h.copy.md.ackreq = false) : advanceRx (n + 5) s = advanceRx n { s with
      rx := some { c with st := .handling rest, outcomes := c.outcomes ++ [(h.slot, .delivered none)] }
      clones := cs, out := s.out ++ [s.enqueueOf h.copy.cloned h.slot] } := by
  let cloned : RxCtx := { c with st := .handling (⟨h.slot, h.original, h.copy.cloned, .classify⟩ :: rest) }
  calc advanceRx (n + 5) s
    _ = advanceRx (n + 4) { s with clones := cs, rx := some cloned } :=
      advanceRx_handle hrx hst (rxHandle_clone_made hstage hclones)
    _ = _ := advanceRx_delivers (s := { s with clones := cs, rx := some cloned }) (c := cloned) rfl rfl rfl hbound
      hdata hno

end

/-! ### All handles of a frame -/

/-- R266: with no other agent in between, the clones' handles run one after the other. -/
theorem advanceRx_clones {init : List Nat} (hdata : original.md.type = 1#3)
    (hno : s.cfg.hwAck = true ∨ original.md.ackreq = false)
    (hbound : ∀ m ∈ init, ∃ i, (s.slots[m]?).bind Slot.fields = some i)
    (hrx : s.rx = some { c with st := .handling (init.map (⟨·, false, original, .clone⟩) ++ rest) })
    (hclones : s.clones = List.replicate init.length true ++ cs) :
    advanceRx (n + 5 * init.length) s = advanceRx n { s with
      rx := some { c with st := .handling rest, outcomes := c.outcomes ++ init.map (·, .delivered none) }
      clones := cs, out := s.out ++ init.map (s.enqueueOf original.cloned) } := by
  induction init generalizing s c with
  | nil =>
    obtain rfl : s.clones = cs := hclones
    rw [List.map_nil, List.nil_append] at hrx
    simp [← hrx]
  | cons m init ih =>
    have hstep := advanceRx_delivers_clone (n := n + 5 * init.length) hrx rfl rfl hclones
      (hbound m List.mem_cons_self) hdata hno
    let after : RxCtx := { c with outcomes := c.outcomes ++ [(m, .delivered none)] }
    have hrest := ih (s := { s with
        rx := some { after with st := .handling (init.map (⟨·, false, original, .clone⟩) ++ rest) }
        clones := List.replicate init.length true ++ cs, out := s.out ++ [s.enqueueOf original.cloned m] })
      (c := after) hno (fun m' hm' => hbound m' (List.mem_cons_of_mem m hm')) rfl rfl
    rw [List.length_cons, Nat.mul_succ, ← Nat.add_assoc]
    refine hstep.trans (hrest.trans ?_)
    simp only [List.map_cons, List.append_assoc, List.singleton_append, after]
    rfl

/-- The enqueues of a Data frame in the order of the slots taken: clones, then the original (R265). -/
def State.deliveries (s : State) (original : Copy) (init : List Nat) (last : Nat) : List PortOut :=
  init.map (s.enqueueOf original.cloned) ++ [s.enqueueOf original last]

/-- R264 to R280: from the end of its fan-out a Data frame comes to its end with one enqueue for each slot taken. -/
theorem advanceRx_deliveries {init : List Nat} {last : Nat} {source : FrameSource} {len cur : Nat}
    {outcomes : List (Nat × CopyOutcome)} (hdata : md.type = 1#3) (hno : s.cfg.hwAck = true ∨ md.ackreq = false)
    (hbound : ∀ m ∈ init ++ [last], ∃ i, (s.slots[m]?).bind Slot.fields = some i)
    (hrx : s.rx = some ⟨source, bytes, len, cur, .fanout md [] (init ++ [last]), outcomes⟩)
    (hclones : s.clones = List.replicate init.length true ++ cs) :
    advanceRx (n + 5 * init.length + 7) s = .next (({ s with
      clones := cs, out := s.out ++ s.deliveries ⟨bytes, len, md⟩ init last } : State).over source 0#8) := by
  let original : Copy := ⟨bytes, len, md⟩
  let ctx (st : RxState) (outcomes : List (Nat × CopyOutcome)) : RxCtx := ⟨source, bytes, len, cur, st, outcomes⟩
  let cloned := init.map (fun m => (m, CopyOutcome.delivered none))
  let u : State := { s with clones := cs, out := s.out ++ s.deliveries original init last }
  have hfanout : rxMicro s = .next { s with rx := some (ctx (.handling
      (init.map (⟨·, false, original, .clone⟩) ++ [⟨last, true, original, .classify⟩])) []) } := by
    rw [rxMicro_fanout_end hrx rfl (by simp), handlesOf_append]
    rfl
  calc advanceRx (n + 5 * init.length + 7) s
    _ = advanceRx (n + 6 + 5 * init.length) { s with rx := some (ctx (.handling
          (init.map (⟨·, false, original, .clone⟩) ++ [⟨last, true, original, .classify⟩])) []) } := by
      rw [show n + 5 * init.length + 7 = n + 6 + 5 * init.length + 1 by omega, advanceRx_step hrx hfanout]
    _ = advanceRx (n + 2 + 4) { s with
          rx := some (ctx (.handling [⟨last, true, original, .classify⟩]) cloned)
          clones := cs, out := s.out ++ init.map (s.enqueueOf original.cloned) } :=
      advanceRx_clones (s := { s with rx := some (ctx (.handling
          (init.map (⟨·, false, original, .clone⟩) ++ [⟨last, true, original, .classify⟩])) []) })
        (c := ctx .done []) hdata hno (fun m hm => hbound m (List.mem_append_left _ hm)) rfl hclones
    _ = advanceRx (n + 2) { u with rx := some (ctx (.handling []) (cloned ++ [(last, .delivered none)])) } := by
      refine (advanceRx_delivers (s := { s with
          rx := some (ctx (.handling [⟨last, true, original, .classify⟩]) cloned)
          clones := cs, out := s.out ++ init.map (s.enqueueOf original.cloned) })
        (c := ctx (.handling [⟨last, true, original, .classify⟩]) cloned) rfl rfl rfl
        (hbound last (List.mem_append_right _ List.mem_cons_self)) hdata hno).trans ?_
      rw [List.append_assoc]
      rfl
    _ = advanceRx (n + 1) { u with rx := some (ctx .done (cloned ++ [(last, .delivered none)])) } :=
      advanceRx_step (s := { u with rx := some (ctx (.handling []) (cloned ++ [(last, .delivered none)])) }) rfl
        (rxMicro_handled (c := ctx (.handling []) (cloned ++ [(last, .delivered none)])) rfl rfl)
    _ = advanceRx n
          (({ u with rx := some (ctx .done (cloned ++ [(last, .delivered none)])) } : State).over source 0#8) :=
      advanceRx_step (s := { u with rx := some (ctx .done (cloned ++ [(last, .delivered none)])) }) rfl
        (rxMicro_done (c := ctx .done (cloned ++ [(last, .delivered none)])) rfl rfl)
    _ = .next (u.over source 0#8) := by
      rw [advanceRx_over]
      cases source <;> rfl

theorem length_deliveries (s : State) (original : Copy) (init : List Nat) (last : Nat) :
    (s.deliveries original init last).length = (init ++ [last]).length := by
  simp [State.deliveries]

/-- The `k`-th enqueue is that of the `k`-th slot taken: a clone's, and the original's for the last one. -/
theorem getElem?_deliveries {init : List Nat} {last k m : Nat} (hm : (init ++ [last])[k]? = some m) :
    (s.deliveries original init last)[k]? = some
      (s.enqueueOf (if k + 1 = (init ++ [last]).length then original else original.cloned) m) := by
  unfold State.deliveries
  rw [List.length_append, List.length_singleton]
  obtain hk | hk : k < init.length ∨ init.length ≤ k := Nat.lt_or_ge k init.length
  · rw [List.getElem?_append_left hk] at hm
    rw [List.getElem?_append_left (by simpa using hk), List.getElem?_map, hm, if_neg (by omega)]
    rfl
  · rw [List.getElem?_append_right hk, List.getElem?_singleton] at hm
    rw [List.getElem?_append_right (by simpa using hk), List.length_map, List.getElem?_singleton]
    split at hm
    next hzero =>
      obtain rfl : last = m := Option.some.inj hm
      rw [if_pos hzero, if_pos (by omega)]
    next => cases hm

theorem enqueueOf_bound {g : Byte} {i : Iface} (copy : Copy) (hbound : s.slots[n]? = some ⟨g, .bound i⟩) :
    s.enqueueOf copy n = .enqueue n { copy with md := { copy.md with
      scope := some (scopeOf copy.md.dst copy.md.src.mode i) } } := by
  rw [State.enqueueOf, hbound]
  rfl

theorem fields_of_mem_matching (hn : n ∈ s.matching) : ∃ i, (s.slots[n]?).bind Slot.fields = some i := by
  obtain ⟨g, i, hbound, -⟩ := matchesSlot_eq_true.1 (List.mem_filter.1 hn).2
  exact ⟨i, by rw [hbound]; rfl⟩

/-- R250 to R280: a Data frame from its start to its end in one burst. -/
theorem advanceRx_dataFrame {init : List Nat} {last : Nat} (hpass : s.passesChecksum bytes)
    (hok : decodeHdr fcLayout bytes (s.strippedLen bytes) = .ok md) (hdata : md.type = 1#3)
    (hno : s.cfg.hwAck = true ∨ md.ackreq = false) (hmatching : s.matching = init ++ [last])
    (hclones : s.clones = List.replicate init.length true ++ cs) (source : FrameSource)
    (hn : 5 + 9 * s.slots.length ≤ n) : advanceRx n (s.startRx source bytes) = .next (({ s with
      clones := cs, out := s.out ++ s.deliveries ⟨bytes, s.strippedLen bytes, md⟩ init last } : State).over
        source 0#8) := by
  have htaken : init.length + 1 ≤ s.slots.length := by
    have hle : s.matching.length ≤ (List.range s.slots.length).length := List.length_filter_le _ _
    simpa [hmatching] using hle
  obtain ⟨k, rfl⟩ : ∃ k, n = k + 5 * init.length + 7 + (s.slots.length + 2) :=
    Nat.exists_eq_add_of_le' (by omega : 5 * init.length + 7 + (s.slots.length + 2) ≤ n) |>.imp fun k hk => by omega
  have hfields : ∀ m ∈ init ++ [last], ∃ i, (s.slots[m]?).bind Slot.fields = some i := fun m hm =>
    fields_of_mem_matching (hmatching ▸ hm)
  rw [advanceRx_fanout hpass hok, hmatching]
  refine (advanceRx_deliveries (s := { s with rx := some ⟨source, bytes, s.strippedLen bytes, md.hdrLen,
    .fanout md [] (init ++ [last]), []⟩ }) hdata hno hfields rfl hclones).trans ?_
  cases source <;> rfl

/-- Settles O36: the whole burst, and each step of the receive state machine by its own lemma. -/
theorem fanOutDeliversOnce : Obligations.FanOutDeliversOnce := by
  refine ⟨fun bytes s md cs hrun hpass hok hdata hno hsome hclones hburst => ?_, fun s c hrx => ?_⟩
  · obtain ⟨init, last, hmatching⟩ := (List.eq_nil_or_concat s.matching).resolve_left hsome
    rw [List.concat_eq_append] at hmatching
    rw [hmatching, List.length_append, List.length_singleton, Nat.add_sub_cancel] at hclones
    let delivered := s.deliveries ⟨bytes, s.strippedLen bytes, md⟩ init last
    have hreceived := received_of_advanceRx (bytes := bytes) (code := 0#8)
      (f := fun s => { s with clones := cs, out := s.out ++ delivered }) hrun (by
        rintro s' source ⟨queue, rfl⟩
        exact advanceRx_dataFrame (s := { s with phyIn := queue }) hpass hok hdata hno hmatching hclones source hburst)
    obtain ⟨hcommand, hradio⟩ := hreceived
    refine ⟨delivered, hcommand, hradio, ?_, fun k n g i hk hbound => ?_⟩
    · rw [hmatching]
      exact length_deliveries s _ init last
    · rw [hmatching] at hk ⊢
      rw [getElem?_deliveries hk, enqueueOf_bound _ hbound]
      split <;> rfl
  · intro goesOn ends valid
    have hends {code : Byte} (h : rxMicro s = .next (s.over c.source code)) : ends code := by
      refine ⟨fun hradio => ?_, fun k hcommand => ?_⟩
      · rw [h, hradio]
        rfl
      · rw [h, hcommand]
        rfl
    refine ⟨fun hst => ⟨rxMicro_checksum_omitted hrx hst, rxMicro_checksum_valid hrx hst,
        rxMicro_checksum_bad hrx hst⟩,
      fun hst => ⟨fun md => rxMicro_decode_ok hrx hst, fun e cur => rxMicro_decode_error hrx hst⟩,
      fun md n todo taken hst => ?_, fun md => rxMicro_unmatched hrx,
      fun h rest o hst hstage => rxMicro_finish hrx hst hstage, rxMicro_handled hrx,
      fun hst => hends (rxMicro_done hrx hst), fun hst => hends (rxMicro_dropped hrx hst),
      fun e hst => hends (rxMicro_dropped hrx hst), fun hst => hends (rxMicro_dropped hrx hst)⟩
    intro matched
    refine ⟨fun hmatched => ?_, fun hunmatched => ?_⟩
    · exact (rxMicro_visit hrx hst).trans (by rw [if_pos (matchesSlot_eq_true.2 hmatched)])
    · exact (rxMicro_visit hrx hst).trans (by rw [if_neg (mt matchesSlot_eq_true.1 hunmatched)])

end Sys2Proof.Machine
